-- ==== Sys2Proof/Word.lean ====
section
/-! DEFINITION. The words of the part: bytes, superframe counts, generations and order numbers, and the
container of four like things, one for each lane or strike input. -/

namespace Sys2Proof

/-- One byte on the host port, on a lane or in a control message. -/
abbrev Byte := BitVec 8

/-- A superframe count or an epoch, counted modulo 2^32 (0.4, R53, R141). -/
abbrev Count := BitVec 32

/-- A generation or an order number (R7, R139). -/
abbrev Word16 := BitVec 16

/-- Four like things, numbered 0-3: one for each lane, or one for each strike input (0.4). -/
structure PerLane (α : Type) where
  l0 : α
  l1 : α
  l2 : α
  l3 : α
deriving DecidableEq, Repr

namespace PerLane
variable {α β : Type}

/-- The thing numbered `i`. -/
def get (p : PerLane α) : Fin 4 → α
  | 0 => p.l0
  | 1 => p.l1
  | 2 => p.l2
  | 3 => p.l3

/-- `p` with the thing numbered `i` replaced by `a`. -/
def set (p : PerLane α) (i : Fin 4) (a : α) : PerLane α :=
  match i with
  | 0 => { p with l0 := a }
  | 1 => { p with l1 := a }
  | 2 => { p with l2 := a }
  | 3 => { p with l3 := a }

/-- The four things that a function of the number gives. -/
def ofFn (f : Fin 4 → α) : PerLane α := ⟨f 0, f 1, f 2, f 3⟩

/-- Four equal things. -/
def all (a : α) : PerLane α := ⟨a, a, a, a⟩

/-- Each thing changed by `f`. -/
def map (f : α → β) (p : PerLane α) : PerLane β := ⟨f p.l0, f p.l1, f p.l2, f p.l3⟩

/-- The four things in ascending number. -/
def toList (p : PerLane α) : List α := [p.l0, p.l1, p.l2, p.l3]

end PerLane

/-- The four lane numbers in ascending order. -/
def laneNumbers : List (Fin 4) := [0, 1, 2, 3]

end Sys2Proof
end

