-- ==== Sys2Proof/Syntax.lean ====
section
/-! DEFINITION. The commands of the part, one constructor for each row of spec/opcode_table.json, and the types of
their operands: circuit records and edits (R1, R8), views and orders (R28, R139), the two control messages
(R106, R108) and what a lane receives in one superframe (R57). A host request carries the body of its request
frame as it was received (R200), so that every body the host processor can send is an operand. -/

namespace Sys2Proof

/-- The role of the part, sampled from the role strap (0.1, R193). -/
inductive Role where
  | mast
  | truck
deriving DecidableEq, Repr

/-- The direction of a circuit: DOWN runs from mast to truck, UP from truck to mast (0.1, R1). -/
inductive Direction where
  | down
  | up
deriving DecidableEq, Repr

/-- The class of a circuit: PROTECTED, STANDARD or EXTRA (R1). -/
inductive Class where
  | prot
  | standard
  | extra
deriving DecidableEq, Repr

/-- The kind of a lane (0.1, R49). -/
inductive Kind where
  | optical
  | radio
  | copper
deriving DecidableEq, Repr

/-- The eight lane states (R65). -/
inductive LaneState where
  | off
  | dark
  | aligning
  | recovering
  | admitting
  | inService
  | suspect
  | quarantined
deriving DecidableEq, Repr

/-- The five link states (R119). -/
inductive LinkState where
  | standby
  | calling
  | syncing
  | carrying
  | holdover
deriving DecidableEq, Repr

/-- The mode of a stage area or of a transfer item (R16). -/
inductive StageMode where
  | change
  | full
deriving DecidableEq, Repr

/-- The kind of a hard reset, named by the condition that holds the part in reset (R195). -/
inductive HardCause where
  | powerOn
  | pin
  | supply
deriving DecidableEq, Repr

/-- A quarantine cause set, drawn from STRIKE, STORM, DRIVER and THERMAL (R82). -/
structure Causes where
  strike : Bool
  storm : Bool
  driver : Bool
  thermal : Bool
deriving DecidableEq, Repr

/-- A plan stamp: the pair (generation, order number); 0/0 means no plan (R37, R139). -/
structure Stamp where
  generation : Word16
  number : Word16
deriving DecidableEq, Repr

/-- A cell: 60 bytes of circuit material (0.5). -/
abbrev Cell := List Byte

/-- The host part of a circuit record, its nine fields (R1). Demand and floor are in slots. -/
structure Record where
  number : Fin 64
  direction : Direction
  mastPort : Fin 32
  truckPort : Fin 32
  cls : Class
  priority : Fin 16
  demand : Nat
  floor : Option Nat
  preference : List (Fin 4)
deriving DecidableEq, Repr

/-- One staged change (R8). -/
inductive Edit where
  | add (record : Record)
  | modify (record : Record)
  | retire (number : Fin 64)
deriving DecidableEq, Repr

/-- The fields of a view for one lane and one direction (R28). -/
structure DirView where
  usable : Bool
  suspect : Bool
  grade : Fin 4
deriving DecidableEq, Repr

/-- The entry of a view for one lane: its kind, and the fields of each direction (R28). -/
structure LaneView where
  kind : Kind
  down : DirView
  up : DirView
deriving DecidableEq, Repr

/-- A view: the planner's account of the four lanes (R28). -/
abbrev View := PerLane LaneView

/-- What a control message reports of one lane: kind, state, effective grade, score divided by 16 (R72). The grade is the
byte of the message, which no rule keeps within 0 to 3 (R203; assumption log 23). -/
structure LaneReport where
  kind : Kind
  state : LaneState
  grade : Byte
  score16 : Byte
deriving DecidableEq, Repr

/-- The pending order carried in a steering message (R106). -/
structure OrderField where
  epoch : Count
  stamp : Stamp
  view : View
  commitMark : Bool
deriving DecidableEq, Repr

/-- A transfer item (R17): target generation, mode, index, total, and one edit (none when the total is 0). -/
structure TransferItem where
  target : Word16
  mode : StageMode
  index : Nat
  total : Nat
  edit : Option Edit
deriving DecidableEq, Repr

/-- A steering message (R106). -/
structure Steering where
  cycle : Word16
  link : LinkState
  generation : Word16
  stamp : Stamp
  c : Nat
  lead : Nat
  order : Option OrderField
  item : Option TransferItem
  paused : Bool
  lanes : PerLane LaneReport
  stormOn : Bool
  deadBand : Bool
deriving DecidableEq, Repr

/-- A mast reply (R108). `stageMode` is the mode reported beside the target. -/
structure Reply where
  echo : Word16
  link : LinkState
  generation : Word16
  stageTarget : Option Word16
  stageMode : StageMode
  held : Nat
  stamp : Stamp
  ready : Option Stamp
  blank : Bool
  lanes : PerLane LaneReport
  causes : PerLane Causes
  stormOn : Bool
  deadBand : Bool
deriving DecidableEq, Repr

/-- A superframe as it reached a lane receiver: the bytes on the line (R202), and by how many superframes it came
after the first superframe of the same count on another lane (R52). -/
structure Arrival where
  lag : Nat
  bytes : List Byte
deriving DecidableEq, Repr

/-- What a lane port receives in one superframe: the PHY's SIGNAL input as it is sampled, and the superframe that
arrived, if one did (R49, R57). -/
structure LaneInput where
  signal : Bool
  arrival : Option Arrival
deriving DecidableEq, Repr

/-- What a command of the host port takes where the part reads its address pins: their levels at the start of the
transaction (R180), and bytes received in it. -/
structure Transaction where
  pins : BitVec 2
  bytes : List Byte
deriving DecidableEq, Repr

/-- The commands: one constructor for each row of spec/opcode_table.json, in the table's order. -/
inductive Instr where
  /-- IDENTIFY (R193): the address pins, which it returns (R180), and the bytes of its body. -/
  | identify (body : Transaction)
  /-- STATUS (R194). -/
  | status (body : List Byte)
  /-- EVENTS (R191): body of the two bytes of the clear set. -/
  | events (body : List Byte)
  /-- EVENT MASK (R192): body of the two bytes of enable marks. -/
  | eventMask (body : List Byte)
  /-- CONFIGURE (R187): body of 12 bytes. -/
  | configure (body : List Byte)
  /-- LANE SETUP (R50): lane, kind, enable. -/
  | laneSetup (body : List Byte)
  /-- PROTECTION SETUP (R189): body of 13 bytes. -/
  | protectionSetup (body : List Byte)
  /-- READ CIRCUIT (R15): circuit number. -/
  | readCircuit (body : List Byte)
  /-- STAGE ADD (R10): a circuit record in 16 bytes. -/
  | stageAdd (body : List Byte)
  /-- STAGE MODIFY (R10): a circuit record in 16 bytes. -/
  | stageModify (body : List Byte)
  /-- STAGE RETIRE (R10): circuit number. -/
  | stageRetire (body : List Byte)
  /-- READ CHANGES (R14, R19): position or index. -/
  | readChanges (body : List Byte)
  /-- DISCARD CHANGES (R13). -/
  | discardChanges (body : List Byte)
  /-- COMMIT (R151): trigger code. -/
  | commit (body : List Byte)
  /-- TRIGGER (R155): code and requested epoch, five bytes. -/
  | trigger (body : List Byte)
  /-- READ PLAN with the circuit form (R47): form 0, selector, circuit number. -/
  | readPlanCircuit (body : List Byte)
  /-- READ PLAN with the lane form (R48): form 1, selector, direction. -/
  | readPlanLane (body : List Byte)
  /-- READ LANE (R73): lane number. -/
  | readLane (body : List Byte)
  /-- READ COUNTERS with the circuit form (R178): form 0, circuit number, clear option. -/
  | readCountersCircuit (body : List Byte)
  /-- READ COUNTERS with the end form (R178): form 1, 0, clear option. -/
  | readCountersEnd (body : List Byte)
  /-- READ COUNTERS with the lane form (R186): form 2, lane number, clear option. -/
  | readCountersLane (body : List Byte)
  /-- READ COUNTERS with the protection form (R186): form 3, 0, clear option. -/
  | readCountersProtection (body : List Byte)
  /-- RELEASE LANE (R92): lane number. -/
  | releaseLane (body : List Byte)
  /-- LINK START (R120). -/
  | linkStart (body : List Byte)
  /-- LINK STOP (R132). -/
  | linkStop (body : List Byte)
  /-- SOFT RESET (R196). -/
  | softReset (body : List Byte)
  /-- FETCH (R183): its body, which is ignored, and how many bytes the host processor clocks after the frame
  before it releases chip select. -/
  | fetch (body : List Byte) (clocked : Nat)
  /-- A transaction judged by the first five cases of R181: the address pins (R180), and all bytes received in it, from
  the assertion of chip select to its release. -/
  | badRequest (bytes : Transaction)
  /-- A frame with an unknown request code (R181). -/
  | badCode (code : Byte)
  /-- A POWER_ON reset begins (R195). -/
  | powerOnReset
  /-- A PIN reset begins (R195). -/
  | pinReset
  /-- The supply falls below the reset level (R93, R96). -/
  | supplyReset
  /-- The supply falls below the working level (R93). -/
  | supplyBelowWorkingLevel
  /-- The supply rises above the working level plus hysteresis (R93). -/
  | supplyAboveHysteresis
  /-- A superframe boundary (R53), with what each lane received in the superframe that it completes. -/
  | superframeBoundary (inputs : PerLane LaneInput)
  /-- The evaluation of one lane in which its valid-header run reaches 2 (R61). -/
  | alignment (lane : Fin 4) (input : LaneInput)
  /-- The evaluation of one lane in which its miss run reaches 4 (R62). -/
  | alignmentLoss (lane : Fin 4) (input : LaneInput)
  /-- The evaluation of one ADMITTING lane in which its hold count reaches the hold target (R67). -/
  | readmissionHoldComplete (lane : Fin 4) (input : LaneInput)
  /-- The GRADE input of a lane takes a value (R49). -/
  | gradeChange (lane : Fin 4) (grade : Fin 4)
  /-- A cell arrives at the transmit side of a service port (R161). -/
  | cellArrival (port : Fin 32) (cell : Cell)
  /-- A pulse on a strike input has lasted 2 us (R78, R79). -/
  | countedStrike (input : Fin 4)
  /-- The 10 ms refractory of a strike input ends (R78). -/
  | refractoryEnd (input : Fin 4)
  /-- A lane's strike hold timer expires (R80). -/
  | strikeHoldExpiry (lane : Fin 4)
  /-- The storm decay timer expires (R84). -/
  | stormDecayExpiry
  /-- A copper driver reports an overcurrent (R89). -/
  | overcurrent (lane : Fin 4)
  /-- The overcurrent of a driver ends (R89). -/
  | overcurrentEnd (lane : Fin 4)
  /-- A driver's blanking timer expires (R89). -/
  | blankingExpiry (lane : Fin 4)
  /-- A lane's driver retry timer expires (R90). -/
  | driverRetryExpiry (lane : Fin 4)
  /-- A driver's region passes its trip temperature upward (R91). -/
  | thermalTrip (lane : Fin 4)
  /-- A driver's region passes its release temperature downward (R91). -/
  | thermalRelease (lane : Fin 4)
  /-- The copy chosen in this superframe is a steering message (R104, R105, R107). -/
  | steeringMessage (message : Steering)
  /-- The copy chosen in this superframe is a mast reply (R104, R105, R110). -/
  | mastReply (message : Reply)
  /-- The end of a control cycle (R112, R113). -/
  | controlCycleEnd
  /-- The holdover count has reached the limit (R128). -/
  | holdoverExpiry
  /-- The timer of a call window expires (R121, R123). -/
  | callWindowExpiry
  /-- The gap timer expires (R121). -/
  | gapExpiry
  /-- The recall wait expires (R121). -/
  | recallWaitExpiry
  /-- The truck end judges whether to issue an order (R140). -/
  | orderIssue
  /-- A planning run reaches its end count (R42). -/
  | planningRunEnd
  /-- A resync full sync starts (R159). -/
  | fullSync
  /-- The truck end takes its pending order (R143). -/
  | orderTakeTruck
  /-- The mast end takes its heard order (R147). -/
  | orderTakeMast
  /-- The epoch of a withdrawn order is reached with the commit ORDERED (R131). -/
  | orderedCommitCompletion
  /-- One condition of a hard reset ends (R195): which one, with the level of the role strap and the reading of the
  supply monitor (above the working level plus hysteresis or not) at that moment (R96, R193). -/
  | endOfHardReset (cause : HardCause) (strap : Role) (supplyHigh : Bool)
deriving DecidableEq, Repr

end Sys2Proof
end

