-- ==== Sys2Proof/WellFormed.lean ====
section
/-! DEFINITION. Which commands are well formed: a request whose body has the length and the form byte that its row
names (R200), a cell of 60 bytes (R161), and control messages whose fields can be laid out as R203 lays them out. The
part judges every command, well formed or not. -/

namespace Sys2Proof

/-- The request codes of R200. -/
def requestCodes : List Byte :=
  [0x01, 0x02, 0x03, 0x04, 0x05, 0x06, 0x07, 0x10, 0x11, 0x12, 0x13, 0x14, 0x15, 0x16, 0x17, 0x18,
   0x20, 0x21, 0x22, 0x30, 0x31, 0x3F, 0x7E]

/-- A record whose fields lie in the ranges of R1 that its types do not already give. -/
def Record.wellFormed (r : Record) : Bool :=
  decide (1 ≤ r.demand) && decide (r.demand ≤ 2048) &&
    (match r.floor with
      | none => true
      | some f => decide (1 ≤ f) && decide (f < r.demand) && decide (r.cls ≠ .extra)) &&
    decide r.preference.Nodup

/-- An edit whose record is well formed. -/
def Edit.wellFormed : Edit → Bool
  | .add r => r.wellFormed
  | .modify r => r.wellFormed
  | .retire _ => true

/-- An item whose index and total are bytes, and whose edit is absent exactly when its total is 0 (R17, R203). -/
def TransferItem.wellFormed (i : TransferItem) : Bool :=
  decide (i.index < 256) && decide (i.total < 256) &&
    (match i.edit with
      | none => decide (i.total = 0)
      | some e => e.wellFormed && decide (i.total ≠ 0))

/-- A steering message that can be laid out (R203). -/
def Steering.wellFormed (m : Steering) : Bool :=
  decide (2 ≤ m.c) && decide (m.c ≤ 64) && decide (24 ≤ m.lead) && decide (m.lead ≤ 4096) &&
    (match m.item with
      | none => true
      | some i => i.wellFormed)

/-- A mast reply that can be laid out (R203): its ready stamp is never 0/0, and with no target the mode is CHANGE and
the held count 0 (R16). -/
def Reply.wellFormed (m : Reply) : Bool :=
  decide (m.held < 256) && decide (m.ready ≠ some ⟨0, 0⟩) &&
    (match m.stageTarget with
      | none => decide (m.stageMode = .change) && decide (m.held = 0)
      | some _ => true)

/-- The body has this length. -/
def bodyLength (n : Nat) (body : List Byte) : Bool := decide (body.length = n)

/-- The body has this length and begins with this form byte. -/
def bodyForm (n : Nat) (form : Byte) (body : List Byte) : Bool :=
  decide (body.length = n) && decide (body.head? = some form)

/-- The command is well formed. -/
def Instr.wellFormed : Instr → Bool
  | .identify b => bodyLength 0 b.bytes
  | .status b => bodyLength 0 b
  | .events b => bodyLength 2 b
  | .eventMask b => bodyLength 2 b
  | .configure b => bodyLength 12 b
  | .laneSetup b => bodyLength 3 b
  | .protectionSetup b => bodyLength 13 b
  | .readCircuit b => bodyLength 1 b
  | .stageAdd b => bodyLength 16 b
  | .stageModify b => bodyLength 16 b
  | .stageRetire b => bodyLength 1 b
  | .readChanges b => bodyLength 1 b
  | .discardChanges b => bodyLength 0 b
  | .commit b => bodyLength 1 b
  | .trigger b => bodyLength 5 b
  | .readPlanCircuit b => bodyForm 3 0 b
  | .readPlanLane b => bodyForm 3 1 b
  | .readLane b => bodyLength 1 b
  | .readCountersCircuit b => bodyForm 3 0 b
  | .readCountersEnd b => bodyForm 3 1 b
  | .readCountersLane b => bodyForm 3 2 b
  | .readCountersProtection b => bodyForm 3 3 b
  | .releaseLane b => bodyLength 1 b
  | .linkStart b => bodyLength 0 b
  | .linkStop b => bodyLength 0 b
  | .softReset b => bodyLength 0 b
  | .fetch b _ => decide (b.length ≤ 120)
  | .badRequest t => !t.bytes.isEmpty
  | .badCode c => !requestCodes.contains c
  | .powerOnReset => true
  | .pinReset => true
  | .supplyReset => true
  | .supplyBelowWorkingLevel => true
  | .supplyAboveHysteresis => true
  | .superframeBoundary _ => true
  | .alignment _ _ => true
  | .alignmentLoss _ _ => true
  | .readmissionHoldComplete _ _ => true
  | .gradeChange _ _ => true
  | .cellArrival _ cell => decide (cell.length = 60)
  | .countedStrike _ => true
  | .refractoryEnd _ => true
  | .strikeHoldExpiry _ => true
  | .stormDecayExpiry => true
  | .overcurrent _ => true
  | .overcurrentEnd _ => true
  | .blankingExpiry _ => true
  | .driverRetryExpiry _ => true
  | .thermalTrip _ => true
  | .thermalRelease _ => true
  | .steeringMessage m => m.wellFormed
  | .mastReply m => m.wellFormed
  | .controlCycleEnd => true
  | .holdoverExpiry => true
  | .callWindowExpiry => true
  | .gapExpiry => true
  | .recallWaitExpiry => true
  | .orderIssue => true
  | .planningRunEnd => true
  | .fullSync => true
  | .orderTakeTruck => true
  | .orderTakeMast => true
  | .orderedCommitCompletion => true
  | .endOfHardReset _ _ _ => true

end Sys2Proof
end

