-- ==== Sys2Proof/Decode.lean ====
section
/-! DEFINITION. Reading and writing bytes: byte order (0.4), the two checks (R199), and the request frames of the host
port (R180, R181, R200). No row of spec/opcode_table.json gives a command bits, so `decodeTableWord` answers none. -/

namespace Sys2Proof

/-! ### Byte order and checks -/

/-- The number that bytes spell, most significant byte first (0.4). -/
def natOfBytes (bs : List Byte) : Nat := bs.foldl (fun n b => n * 256 + b.toNat) 0

/-- A number in so many bytes, most significant byte first (0.4). -/
def bytesOfNat : Nat → Nat → List Byte
  | 0, _ => []
  | n + 1, v => bytesOfNat n (v / 256) ++ [BitVec.ofNat 8 v]

/-- The bytes of `bs` from `at_`, so many of them. -/
def slice (bs : List Byte) (at_ n : Nat) : List Byte := (bs.drop at_).take n

/-- The byte at an offset; 0 beyond the end. -/
def byteAt (bs : List Byte) (at_ : Nat) : Byte := bs.getD at_ 0

/-- The number in `n` bytes at an offset. -/
def numAt (bs : List Byte) (at_ n : Nat) : Nat := natOfBytes (slice bs at_ n)

/-- `bs` extended with zeros to `n` bytes, or cut to them. -/
def padTo (n : Nat) (bs : List Byte) : List Byte := (bs ++ List.replicate (n - bs.length) 0).take n

/-- One bit into the register of a check (R199). -/
def crcBit {n : Nat} (poly : BitVec n) (reg : BitVec n) (bit : Bool) : BitVec n :=
  if reg.msb != bit then (reg <<< 1) ^^^ poly else reg <<< 1

/-- One byte into the register of a check, most significant bit first (R199). -/
def crcByte {n : Nat} (poly : BitVec n) (reg : BitVec n) (b : Byte) : BitVec n :=
  [7, 6, 5, 4, 3, 2, 1, 0].foldl (fun r i => crcBit poly r (b.getLsbD i)) reg

/-- CRC-8 of R199: polynomial low terms 31 hex, initial value 00 hex. -/
def crc8 (bs : List Byte) : Byte := bs.foldl (crcByte 0x31) 0

/-- CRC-16 of R199: polynomial low terms 1021 hex, initial value FFFF hex. -/
def crc16 (bs : List Byte) : Word16 := bs.foldl (crcByte 0x1021) 0xFFFF

/-- The two bytes of a CRC-16, most significant first. -/
def crc16Bytes (bs : List Byte) : List Byte := bytesOfNat 2 (crc16 bs).toNat

/-! ### Request frames -/

/-- The command of a frame that has passed the first five cases of R181, by its request code (R200). `clocked` is how
many bytes the host processor clocks after the frame, and `pins` the levels of the address pins at the start of the
transaction, which IDENTIFY returns (R180, R193). A READ PLAN or READ COUNTERS whose form byte is none of those listed is
given to the row of the circuit form, which refuses it. -/
def requestOf (pins : BitVec 2) (code : Byte) (body : List Byte) (clocked : Nat) : Instr :=
  if code = 0x01 then .identify ⟨pins, body⟩
  else if code = 0x02 then .status body
  else if code = 0x03 then .events body
  else if code = 0x04 then .eventMask body
  else if code = 0x05 then .configure body
  else if code = 0x06 then .laneSetup body
  else if code = 0x07 then .protectionSetup body
  else if code = 0x10 then .readCircuit body
  else if code = 0x11 then .stageAdd body
  else if code = 0x12 then .stageModify body
  else if code = 0x13 then .stageRetire body
  else if code = 0x14 then .readChanges body
  else if code = 0x15 then .discardChanges body
  else if code = 0x16 then .commit body
  else if code = 0x17 then .trigger body
  else if code = 0x18 then
    if body.head? = some 1 then .readPlanLane body else .readPlanCircuit body
  else if code = 0x20 then .readLane body
  else if code = 0x21 then
    if body.head? = some 1 then .readCountersEnd body
    else if body.head? = some 2 then .readCountersLane body
    else if body.head? = some 3 then .readCountersProtection body
    else .readCountersCircuit body
  else if code = 0x22 then .releaseLane body
  else if code = 0x30 then .linkStart body
  else if code = 0x31 then .linkStop body
  else if code = 0x3F then .softReset body
  else if code = 0x7E then .fetch body clocked
  else .badCode code

/-- The request code and body of a request (R200); none for a command that no frame carries. -/
def requestParts : Instr → Option (Byte × List Byte)
  | .identify b => some (0x01, b.bytes)
  | .status b => some (0x02, b)
  | .events b => some (0x03, b)
  | .eventMask b => some (0x04, b)
  | .configure b => some (0x05, b)
  | .laneSetup b => some (0x06, b)
  | .protectionSetup b => some (0x07, b)
  | .readCircuit b => some (0x10, b)
  | .stageAdd b => some (0x11, b)
  | .stageModify b => some (0x12, b)
  | .stageRetire b => some (0x13, b)
  | .readChanges b => some (0x14, b)
  | .discardChanges b => some (0x15, b)
  | .commit b => some (0x16, b)
  | .trigger b => some (0x17, b)
  | .readPlanCircuit b => some (0x18, b)
  | .readPlanLane b => some (0x18, b)
  | .readLane b => some (0x20, b)
  | .readCountersCircuit b => some (0x21, b)
  | .readCountersEnd b => some (0x21, b)
  | .readCountersLane b => some (0x21, b)
  | .readCountersProtection b => some (0x21, b)
  | .releaseLane b => some (0x22, b)
  | .linkStart b => some (0x30, b)
  | .linkStop b => some (0x31, b)
  | .softReset b => some (0x3F, b)
  | .fetch b _ => some (0x7E, b)
  | _ => none

/-- How many bytes the host processor clocks after the frame of a request. -/
def clockedAfter : Instr → Nat
  | .fetch _ n => n
  | _ => 0

/-- The bytes of a transaction that carries a request: header, code, body length, body, CRC-8 (R200), and zeros for
the bytes clocked after it. The group flag stands in bit 7 of the header and the chip address in bits 1-0. -/
def encodeFrame (group : Bool) (chip : BitVec 2) (i : Instr) : Option (List Byte) :=
  match requestParts i with
  | none => none
  | some (code, body) =>
    let header : Byte := BitVec.ofNat 8 ((if group then 128 else 0) + chip.toNat)
    let front := header :: code :: BitVec.ofNat 8 body.length :: body
    some (front ++ [crc8 front] ++ List.replicate (clockedAfter i) 0)

/-- The frame is for this part: its chip address equals the pins or its group flag is set (R180). -/
def frameForPart (pins : BitVec 2) (header : Byte) : Bool :=
  header.getLsbD 7 || decide (header.extractLsb' 0 2 = pins)

/-- A frame for this part judged by R181, in the order of its cases: none when it is discarded, else its command. -/
def judgeFrame (pins : BitVec 2) (bytes : List Byte) : Option Instr :=
  match bytes with
  | header :: code :: len :: rest =>
    let n := len.toNat
    let body := rest.take n
    if rest.length < n + 1 then none
    else if 120 < n then none
    else if crc8 (header :: code :: len :: body) ≠ byteAt rest n then none
    else if header.getLsbD 7 = true ∧ code ≠ 0x17 then none
    else if code = 0x17 ∧ n ≠ 5 then none
    else some (requestOf pins code body (rest.length - (n + 1)))
  | _ => none

/-- The command that a transaction's bytes give a part whose address pins stand so at its start: none when they hold no
frame for it (R180), BAD_REQUEST when the frame is discarded, and else the request (R181). -/
def decodeFrame (pins : BitVec 2) (bytes : List Byte) : Option Instr :=
  match bytes with
  | [] => none
  | header :: _ =>
    if frameForPart pins header then some ((judgeFrame pins bytes).getD (.badRequest ⟨pins, bytes⟩)) else none

/-! ### Words of the opcode table -/

/-- The command that a word spells by the table's bits. No row gives bits, so no word spells a command. -/
def decodeTableWord (_nbits _w : Nat) : Option Instr := none

end Sys2Proof
end

