-- ==== Sys2Proof/Config.lean ====
section
/-! DEFINITION. What is fixed for every part: the sizes, thresholds and lengths that the manual gives as numbers, and
the values that it leaves open. An open value is an opaque constant with no body: no proof can see what it is. -/

namespace Sys2Proof.Config

/-- Cells held by the shared pool of one end (R166). -/
def poolSize : Nat := 16384

/-- The occupancy at or below which the exhaustion mark is cleared (R166). -/
def poolRelease : Nat := 12288

/-- Edits held by the change set (R8). -/
def changeSetSize : Nat := 16

/-- The value at which a 32-bit counter saturates (0.4, R177). -/
def counterMax : Nat := 4294967295

/-- The value at which a strike count or a driver-fault count saturates (0.4). -/
def countMax8 : Nat := 255

/-- The largest health score (R63). -/
def scoreMax : Nat := 4095

/-- IN_SERVICE goes to SUSPECT at this score or above (R64). -/
def suspectOn : Nat := 1024

/-- SUSPECT returns to IN_SERVICE at this score or below (R64). -/
def suspectOff : Nat := 512

/-- IN_SERVICE or SUSPECT goes to RECOVERING at this score or above (R64). -/
def failOn : Nat := 3072

/-- RECOVERING goes to ADMITTING at this score or below, ADMITTING returns to RECOVERING above it (R64). -/
def readmitLevel : Nat := 128

/-- Valid headers in a row that align a lane (R61). -/
def alignRun : Nat := 2

/-- Superframes in a row without a valid header that lose alignment (R62). -/
def missRunLimit : Nat := 4

/-- The largest difference of path delay that the receivers compensate, in superframes (R52). -/
def delayCompensation : Nat := 4

/-- The superframes of one millisecond, of one second and of ten milliseconds (0.4). -/
def perMs : Nat := 8
def perSecond : Nat := 8000
def perTenMs : Nat := 80

/-- The fixed length of the call schedule's GAP: 50 ms (R121). -/
def gapLength : Nat := 400

/-- A counted strike raises the storm level by this much (R84). -/
def strikeWeight : Nat := 4

/-- The largest storm level (R84). -/
def stormMax : Nat := 15

/-- The storm level at which the posture turns ON (R85). -/
def stormOn : Nat := 8

/-- The miss count stays here once it reaches it (R112, R113). -/
def missMax : Nat := 15

/-- Slots to a block (R26). -/
def blockSlots : Nat := 16

/-- Bytes of a slot on the line: one tag byte and a cell of 60 (R202). -/
def slotBytes : Nat := 61

/-- Bytes of a block on the line: 16 slots and a CRC-16 (R202). -/
def blockBytes : Nat := 978

/-- Bytes of a cell, and of a control slot (0.5). -/
def cellBytes : Nat := 60

/-- The two items of IDENTIFY whose encoding the manual does not state (R193, R200). -/
inductive Identity where
  | family
  | part
deriving DecidableEq, Repr

/-- A state that an answer carries in one byte and for which table 10.2 lists no code (R200). -/
inductive Uncoded where
  | role (r : Role)
  | slotState (live : Bool)
  | driverState (n : Nat)
  | callPhase (n : Nat)
  | syncOutcome (fullSync : Bool)
  | resyncKind (fullSync : Bool)
  | supply (deadBand : Bool)
  | posture (on : Bool)
deriving DecidableEq, Repr

/-- DESIGN CHOICE (assumption log 5): the bytes of an item of IDENTIFY that the manual leaves open: any bytes. -/
opaque identityBytes : Identity → List Byte

/-- DESIGN CHOICE (assumption log 5): the code of a state that the manual leaves open: any byte. -/
opaque stateCode : Uncoded → Byte

/-- DESIGN CHOICE (assumption log 23): the grade that a view holds where the far end reports a grade byte above 3, which no
rule gives: any grade. -/
opaque gradeAbove : Byte → Fin 4

end Sys2Proof.Config
end

