-- ==== Sys2Proof/Machine/State.lean ====
section
/-! DEFINITION. The state of one part, as plain data: every structure that the manual gives to its eight blocks (0.2),
and the queue of the commands that are waiting. A field that is the model's own, not the manual's, says so. -/

namespace Sys2Proof.Machine

open Sys2Proof

/-- Why the part stops. It has no constructor: the manual gives the part no event or request after which it stops, so
no command of this model ends in a fault. -/
inductive Fault where
deriving DecidableEq, Repr

/-- Why a command has no meaning. -/
inductive Refusal where
  /-- Raised by an arm of exec whose command has no meaning in this model. No arm raises it: safe. -/
  | notModelled (mnemonic : String)
deriving DecidableEq, Repr

/-! ### Circuit table (chapter 1) -/

/-- The six counters of a record slot (R5, R176). -/
structure CircuitCounters where
  sent : Nat
  fill : Nat
  dropped : Nat
  delivered : Nat
  lost : Nat
  rescued : Nat
deriving DecidableEq, Repr

/-- A LIVE record slot: its host part (R1), its counters (R5) and the circuit's ingress queue, oldest cell first
(R163). A FREE slot holds no host part, its counters are zero and its queue is empty, so it is not listed. -/
structure Slot where
  record : Record
  counters : CircuitCounters
  queue : List Cell
deriving DecidableEq, Repr

/-- The committed table: its LIVE slots in ascending circuit number, and its generation (R6, R7). -/
structure Table where
  slots : List Slot
  generation : Word16
deriving DecidableEq, Repr

/-- The stage area of the mast end (R16). With no target, mode, total and items have no meaning and are held at
CHANGE, 0 and none. -/
structure StageArea where
  target : Option Word16
  mode : StageMode
  total : Nat
  items : List Edit
deriving DecidableEq, Repr

/-! ### Planner (chapter 2) -/

/-- The five served statuses (R38). -/
inductive Served where
  | fullDual
  | floorDual
  | fullSingle
  | floorSingle
  | shed
deriving DecidableEq, Repr

/-- A run of slots: its lane and its first slot (R35). -/
structure SlotRun where
  lane : Fin 4
  first : Nat
deriving DecidableEq, Repr

/-- The entry of one circuit in a plan (R37). The class is kept with it because READ PLAN returns it as it stood in the
planned table (R47). -/
structure Entry where
  number : Fin 64
  cls : Class
  position : Nat
  served : Served
  laneA : Option SlotRun
  laneB : Option SlotRun
  slots : Nat
deriving DecidableEq, Repr

/-- Capacity and remaining capacity of one lane in one direction of a plan (R29, R37). -/
structure LaneRoom where
  capacity : Nat
  remaining : Nat
deriving DecidableEq, Repr

/-- One direction of a plan (R37); the entries stand in placement order. -/
structure DirPlan where
  rooms : PerLane LaneRoom
  entries : List Entry
deriving DecidableEq, Repr

/-- A plan record (R37). `live` is N, the number of LIVE records of the planned table. -/
structure Plan where
  stamp : Stamp
  view : View
  live : Nat
  down : DirPlan
  up : DirPlan
deriving DecidableEq, Repr

/-- A planning run in progress (R40, R41). -/
structure Run where
  stamp : Stamp
  view : View
  table : List Record
  start : Count
  stop : Count
deriving DecidableEq, Repr

/-- The planner's records (R40). `fresh` is the mark that the current plan became current by the end of its run in the
superframe in progress, and so is in force only from the next one (R40, R42). -/
structure Planner where
  run : Option Run
  next : Option Plan
  current : Option Plan
  fresh : Bool
deriving DecidableEq, Repr

/-! ### Lane framers (chapter 3) -/

/-- The four counters of a lane (R60). -/
structure LaneCounters where
  headersLost : Nat
  receivedValid : Nat
  stampMismatch : Nat
  damagedBlocks : Nat
deriving DecidableEq, Repr

/-- One lane port at this end: configuration and PHY inputs (R49), lane state (R65), health score (R63), valid-header
run (R61), miss run (R62), hold count and the hold target of the latest evaluation (R67, R73), counters (R60), and
whether its framer is sending (R54). -/
structure Lane where
  enable : Bool
  kind : Kind
  signal : Bool
  gradeInput : Fin 4
  state : LaneState
  score : Nat
  validRun : Nat
  missRun : Nat
  holdCount : Nat
  holdTarget : Nat
  counters : LaneCounters
  sending : Bool
deriving DecidableEq, Repr

/-- A slot of a payload region: a cell tagged DATA, or FILL (R26, R55). -/
inductive PayloadSlot where
  | data (cell : Cell)
  | fill
deriving DecidableEq, Repr

/-- What a lane handed on in its evaluation (R59): the control slot with the count of its header, and the payload
positions, `none` for the mark "bad". `gained` says that the evaluation aligned the lane (R53), and `stamp` is the stamp
in force by which the superframe was judged (R143, R169). -/
structure HandOver where
  control : Option (Count × List Byte)
  payload : List (Option PayloadSlot)
  gained : Bool
  stamp : Stamp
deriving DecidableEq, Repr

/-- A superframe as a framer sends it (R54, R55, R56, R202). -/
structure SentFrame where
  lane : Fin 4
  count : Count
  stamp : Stamp
  control : List Byte
  slots : List PayloadSlot
deriving DecidableEq, Repr

/-! ### Surge and supply protection (chapter 4) -/

/-- The two supply states (R93). -/
inductive Supply where
  | normal
  | deadBand
deriving DecidableEq, Repr

/-- A strike input: its count and its refractory condition (R78). -/
structure StrikeInput where
  count : Nat
  refractory : Bool
deriving DecidableEq, Repr

/-- The protection of one lane: cause set (R82), strike hold timer (R79), driver retry timer (R90), blanking timer
(R89), whether the driver's overcurrent is present (R88), and the driver-fault count (R90). A timer holds the boundaries
left to it; at 0 it has expired and its expiry is to be taken. -/
structure LaneGuard where
  causes : Causes
  strikeHold : Option Nat
  retry : Option Nat
  blanking : Option Nat
  overcurrent : Bool
  faults : Nat
deriving DecidableEq, Repr

/-- The parameters of PROTECTION SETUP (R189), in the units of its fields. -/
structure GuardConfig where
  strikeHold : Nat
  stormDecay : Nat
  driverRetry : Nat
  autoretry : Bool
  currentLimit : Nat
  blanking : Nat
  masks : PerLane (PerLane Bool)
  isolate : PerLane Bool
deriving DecidableEq, Repr

/-- The protection block: strike inputs, lanes, storm level and posture, storm decay timer, supply state,
configuration (R77 to R98). -/
structure Protection where
  inputs : PerLane StrikeInput
  guards : PerLane LaneGuard
  stormLevel : Nat
  stormOn : Bool
  stormDecay : Option Nat
  supply : Supply
  config : GuardConfig
deriving DecidableEq, Repr

/-! ### Control channel engine (chapter 5) -/

/-- A waiting first half of a lane: the count its header carried, and its 60 bytes (R103). -/
structure WaitingHalf where
  count : Count
  bytes : List Byte
deriving DecidableEq, Repr

/-- The control channel engine: the C in force stands in `Params`. Miss count, silence (R112 to R114), whether a message
was accepted in the cycle in progress, the number to echo (R109), the control slots still to be sent of the message that
is being sent (R101), the waiting first halves (R103), and the latest far-end report with its arrival count (R116).
`cycleDue` (the model's own) says that the superframe in progress begins a cycle whose start has not been taken yet. -/
structure Channel where
  missCount : Nat
  silent : Bool
  accepted : Bool
  echo : Option Word16
  cycleDue : Bool
  toSend : List (List Byte)
  waiting : PerLane (Option WaitingHalf)
  fromTruck : Option (Steering × Count)
  fromMast : Option (Reply × Count)
deriving DecidableEq, Repr

/-! ### Link controller (chapters 6 and 7) -/

/-- The phases of the call schedule (R121). -/
inductive CallPhase where
  | window
  | gap
  | recallWait
deriving DecidableEq, Repr

/-- The origin of a HOLDOVER (R127). -/
inductive Origin where
  | syncing
  | carrying
deriving DecidableEq, Repr

/-- The link state (R119), the call schedule (R121: no phase and attempt 0 while it is stopped), and holdover with the
limit formed at the latest cycle end (R127, R128). `expiryDue` (the model's own) says that at the cycle end of the superframe in progress the holdover count reached
the limit, and that this expiry has not been taken yet. -/
structure Link where
  state : LinkState
  phase : Option CallPhase
  attempt : Nat
  timer : Option Nat
  origin : Option Origin
  holdCount : Nat
  limit : Nat
  expiryDue : Bool
deriving DecidableEq, Repr

/-- The kinds of order (R139). -/
inductive OrderKind where
  | plain
  | commit
  | fullSync
deriving DecidableEq, Repr

/-- An order issued at the truck end (R139). Its commit mark is yes but for a plain order. -/
structure Order where
  epoch : Count
  stamp : Stamp
  view : View
  kind : OrderKind
deriving DecidableEq, Repr

/-- The planning source of a heard order (R146). -/
inductive Source where
  | committed
  | changeStage
  | fullStage
deriving DecidableEq, Repr

/-- The heard order of the mast end with its planning source, none while it is not plannable (R145, R146). -/
structure HeardOrder where
  order : OrderField
  source : Option Source
deriving DecidableEq, Repr

/-- The two outcomes of the SYNCING decision (R124), and the two kinds of resync (R150). -/
inductive Repair where
  | freshOrder
  | fullSync
deriving DecidableEq, Repr

/-- A transfer (R152). `sentNow` and `sentBefore` (the model's own) say that the steering message of the cycle in
progress, and that of the cycle before it, was formed after the transfer began. -/
structure Transfer where
  opened : Bool
  sentNow : Bool
  sentBefore : Bool
deriving DecidableEq, Repr

/-- A full sync in progress (R159): its target, its items in ascending circuit number, its transfer. -/
structure FullSync where
  target : Word16
  items : List Record
  transfer : Transfer
deriving DecidableEq, Repr

/-- The commit procedure outside IDLE (7.7): TRANSFERRING, and whether it is waiting to order (R154); ARMED, with the
requested epoch once it is triggered (R155); ORDERED, with the epoch of its order and whether it was moved (R156). -/
inductive CommitPhase where
  | transferring (waiting : Bool)
  | armed (trigger : Option Count)
  | ordered (epoch : Count) (moved : Bool)
deriving DecidableEq, Repr

/-- A commit that is not IDLE: phase, trigger code, target generation, total and transfer (R151). -/
structure CommitJob where
  phase : CommitPhase
  code : Nat
  target : Word16
  total : Nat
  transfer : Transfer
deriving DecidableEq, Repr

/-- The commit-done record (R157). -/
structure CommitDone where
  generation : Word16
  epoch : Count
  moved : Bool
  code : Nat
deriving DecidableEq, Repr

/-- The link controller's orders: stamp and view in force (R138, R143), the pending order, next order number, stamp of
the latest order, mismatch count, resync needed, SYNCING decision, full sync, commit procedure and commit-done record at
the truck end (R124, R139 to R159), the heard order, mismatch condition and ready stamp at the mast end (R145 to
R149). A first order is needed while the decision is `freshOrder`. -/
structure Orders where
  stamp : Stamp
  view : Option View
  pending : Option Order
  nextNumber : Word16
  latest : Option Stamp
  mismatchCount : Nat
  resync : Option Repair
  decision : Option Repair
  fullSync : Option FullSync
  commit : Option CommitJob
  done : Option CommitDone
  heard : Option HeardOrder
  mismatch : Bool
  ready : Option Stamp
deriving DecidableEq, Repr

/-! ### Service port block (chapter 8) -/

/-- The service port block: the exhaustion mark (R166), the stray-cell counter (R162), the most recently computed plan
(R164), and the cells delivered in the latest superframe, in the order in which they left the receive sides (R171). -/
structure Service where
  exhausted : Bool
  stray : Nat
  limits : Option Plan
  delivered : List (Fin 32 × Cell)
deriving DecidableEq, Repr

/-! ### Host port and event unit (chapter 9) -/

/-- The answer codes (R184). -/
inductive AnswerCode where
  | ok
  | clamped
  | busy
  | noRecord
  | exists_
  | portTaken
  | setFull
  | badField
  | notRole
  | frozen
  | noLink
  | nothingStaged
  | badState
  | badCode
  | none_
deriving DecidableEq, Repr

/-- One item of an answer body (R200): a number in so many bytes, bytes as they stand, a state in one byte whose code
the manual does not list, or an item of IDENTIFY whose encoding it does not state. -/
inductive Field where
  | num (size : Nat) (value : Nat)
  | bytes (bs : List Byte)
  | uncoded (what : Config.Uncoded)
  | identity (what : Config.Identity)
deriving DecidableEq, Repr

/-- An answer (R183): the code of the request answered, the answer code and the items of the body. -/
structure Answer where
  request : Byte
  code : AnswerCode
  body : List Field
deriving DecidableEq, Repr

/-- The reset causes (R195). -/
inductive ResetCause where
  | powerOn
  | pin
  | supply
  | soft
deriving DecidableEq, Repr

/-- The host port and event unit: held answer (R183), event flags and mask in the bit order of EVENTS (R190, R192,
R200), reset cause (R195), and the bytes shifted out by the latest FETCH. The levels of the two address pins are read at
the start of each transaction (R180), and come with the commands that they decide. -/
structure HostPort where
  held : Option Answer
  flags : BitVec 16
  mask : BitVec 16
  cause : ResetCause
  shifted : List Byte
deriving DecidableEq, Repr

/-- The parameters of CONFIGURE (R187). The C and lead in force are these (R100, R188). -/
structure Params where
  c : Nat
  lead : Nat
  missLimit : Nat
  holdoverBase : Nat
  holdoverScale : Nat
  callWindow : Nat
  recallInterval : Nat
  readmitHold : Nat
deriving DecidableEq, Repr

/-- The conditions that hold the part in hard reset (R195); none while it runs. -/
structure Resetting where
  powerOn : Bool
  pin : Bool
  supply : Bool
deriving DecidableEq, Repr

/-- The state of one part. `pending` is the queue of the commands that wait, first in, first out (the model's own).
`counting` says that the superframe count advances (R53). `handed` (the model's own) is what each lane handed on in its
evaluation of the superframe in progress, none while it has not made it. `sent` is what each framer sent at the latest
boundary. -/
structure State where
  pending : List Instr
  role : Role
  resetting : Resetting
  count : Count
  counting : Bool
  params : Params
  table : Table
  changes : List Edit
  stage : StageArea
  planner : Planner
  lanes : PerLane Lane
  handed : PerLane (Option HandOver)
  sent : PerLane (Option SentFrame)
  prot : Protection
  chan : Channel
  link : Link
  orders : Orders
  service : Service
  host : HostPort
deriving DecidableEq, Repr

/-! ### Values after reset -/

/-- The stamp 0/0: no plan (0.5). -/
def Stamp.zero : Stamp := ⟨0, 0⟩

/-- No quarantine cause (R82). -/
def Causes.none : Causes := ⟨false, false, false, false⟩

/-- Six counters at zero (R5). -/
def CircuitCounters.zero : CircuitCounters := ⟨0, 0, 0, 0, 0, 0⟩

/-- The stage area with no target (R18, R24). -/
def StageArea.empty : StageArea := ⟨none, .change, 0, []⟩

/-- The planner with no run, no next plan and no current plan (R45, R46). -/
def Planner.empty : Planner := ⟨none, none, none, false⟩

/-- The defaults of R187. -/
def Params.default : Params := ⟨8, 40, 4, 250, 4, 40, 5, 800⟩

/-- The defaults of R189. -/
def GuardConfig.default : GuardConfig :=
  ⟨25, 10, 20, true, 2, 1, PerLane.all (PerLane.all true), PerLane.all false⟩

/-- A lane after a hard reset, with its PHY inputs at the given levels (R75). -/
def Lane.hardReset (signal : Bool) (gradeInput : Fin 4) : Lane :=
  ⟨false, .optical, signal, gradeInput, .off, 0, 0, 0, 0, 0, ⟨0, 0, 0, 0⟩, false⟩

/-- The protection of a lane after any reset (R97, R98). -/
def LaneGuard.cleared : LaneGuard := ⟨Causes.none, none, none, none, false, 0⟩

/-- The protection block after any reset, for the supply state and the configuration that it then has (R97, R98). -/
def Protection.cleared (supply : Supply) (config : GuardConfig) : Protection :=
  ⟨PerLane.all ⟨0, false⟩, PerLane.all LaneGuard.cleared, 0, false, none, supply, config⟩

/-- The control channel engine after any reset (R118). Halves of a message still to be sent are gone (assumption log 57). The count is then 0, at which a cycle begins (R99). -/
def Channel.cleared : Channel :=
  ⟨0, false, false, none, true, [], PerLane.all none, none, none⟩

/-- The link state after any reset (R135, R136). No holdover limit has been formed, which 0 stands for (assumption
log 22). -/
def Link.cleared : Link := ⟨.standby, none, 0, none, none, 0, 0, false⟩

/-- The link controller's orders after any reset (R160). -/
def Orders.cleared : Orders :=
  ⟨Stamp.zero, none, none, 1, none, 0, none, none, none, none, none, none, false, none⟩

/-- The service port block after any reset (R179). -/
def Service.cleared : Service := ⟨false, 0, none, []⟩

/-- The machine right after a POWER_ON reset. The manual leaves two levels outside it to the board: the role strap (here
TRUCK) and the supply (here above the working level plus hysteresis); and the PHY inputs (here SIGNAL absent and GRADE 0).
DESIGN CHOICE, unsafe: assumption log 1. -/
def State.reset : State where
  pending := []
  role := .truck
  resetting := ⟨false, false, false⟩
  count := 0
  counting := false
  params := Params.default
  table := ⟨[], 0⟩
  changes := []
  stage := StageArea.empty
  planner := Planner.empty
  lanes := PerLane.all (Lane.hardReset false 0)
  handed := PerLane.all none
  sent := PerLane.all none
  prot := Protection.cleared .normal GuardConfig.default
  chan := Channel.cleared
  link := Link.cleared
  orders := Orders.cleared
  service := Service.cleared
  host := ⟨none, 0, 0, .powerOn, []⟩

end Sys2Proof.Machine
end

