-- ==== Sys2Proof/Machine/Operands.lean ====
section
/-! DEFINITION. The operands of commands and messages: the codes of table 10.2, the circuit record encoding with the
field checks of a staging request (R2, R3, R201), the fields of configuration bodies with their clamping (R187, R189). -/

namespace Sys2Proof.Machine

open Sys2Proof

/-! ### Coded fields (R200) -/

/-- The code of a kind. -/
def kindCode : Kind → Nat
  | .optical => 0
  | .radio => 1
  | .copper => 2

/-- The kind of a code, none for a value not listed. -/
def kindOf : Nat → Option Kind
  | 0 => some .optical
  | 1 => some .radio
  | 2 => some .copper
  | _ => none

/-- The code of a lane state. -/
def laneStateCode : LaneState → Nat
  | .off => 0
  | .dark => 1
  | .aligning => 2
  | .recovering => 3
  | .admitting => 4
  | .inService => 5
  | .suspect => 6
  | .quarantined => 7

/-- The lane state of a code. -/
def laneStateOf : Nat → Option LaneState
  | 0 => some .off
  | 1 => some .dark
  | 2 => some .aligning
  | 3 => some .recovering
  | 4 => some .admitting
  | 5 => some .inService
  | 6 => some .suspect
  | 7 => some .quarantined
  | _ => none

/-- The code of a link state. -/
def linkStateCode : LinkState → Nat
  | .standby => 0
  | .calling => 1
  | .syncing => 2
  | .carrying => 3
  | .holdover => 4

/-- The link state of a code. -/
def linkStateOf : Nat → Option LinkState
  | 0 => some .standby
  | 1 => some .calling
  | 2 => some .syncing
  | 3 => some .carrying
  | 4 => some .holdover
  | _ => none

/-- The code of a stage mode. -/
def modeCode : StageMode → Nat
  | .change => 0
  | .full => 1

/-- The code of an edit kind; NONE is 0. -/
def editCode : Edit → Nat
  | .add _ => 1
  | .modify _ => 2
  | .retire _ => 3

/-- The code of a served status. -/
def servedCode : Served → Nat
  | .fullDual => 0
  | .floorDual => 1
  | .fullSingle => 2
  | .floorSingle => 3
  | .shed => 4

/-- The code of a direction, as bit 7 of the record encoding and READ PLAN name it (R200, R201). -/
def directionCode : Direction → Nat
  | .down => 0
  | .up => 1

/-- The code of a class (R201). -/
def classCode : Class → Nat
  | .prot => 0
  | .standard => 1
  | .extra => 2

/-- The class of the two class bits; the value 3 is out of range (R201). -/
def classOf : Nat → Option Class
  | 0 => some .prot
  | 1 => some .standard
  | 2 => some .extra
  | _ => none

/-- The code of a reset cause. -/
def resetCauseCode : ResetCause → Nat
  | .powerOn => 0
  | .pin => 1
  | .supply => 2
  | .soft => 3

/-- The answer code of R200. -/
def answerCodeByte : AnswerCode → Byte
  | .ok => 0x00
  | .clamped => 0x01
  | .busy => 0x02
  | .noRecord => 0x03
  | .exists_ => 0x04
  | .portTaken => 0x05
  | .setFull => 0x06
  | .badField => 0x07
  | .notRole => 0x08
  | .frozen => 0x09
  | .noLink => 0x0A
  | .nothingStaged => 0x0B
  | .badState => 0x0C
  | .badCode => 0x0D
  | .none_ => 0x0E

/-- A mark in one bit or byte: 1 for yes. -/
def markCode (b : Bool) : Nat := if b then 1 else 0

/-- A number 0-3, none for any other. -/
def laneOf (n : Nat) : Option (Fin 4) := if h : n < 4 then some ⟨n, h⟩ else none

/-- A number 0-31. -/
def portOf (n : Nat) : Option (Fin 32) := if h : n < 32 then some ⟨n, h⟩ else none

/-- A number 0-63. -/
def circuitOf (n : Nat) : Option (Fin 64) := if h : n < 64 then some ⟨n, h⟩ else none

/-- A number 0-15. -/
def priorityOf (n : Nat) : Option (Fin 16) := if h : n < 16 then some ⟨n, h⟩ else none

/-- Every element of a list by `f`, none when it fails for one. -/
def allOf {α β : Type} (f : α → Option β) : List α → Option (List β)
  | [] => some []
  | a :: as =>
    match f a, allOf f as with
    | some b, some bs => some (b :: bs)
    | _, _ => none

/-! ### The circuit record encoding (R201) -/

/-- The largest rate, 2,048 x 3,840 kb/s, and the rate of one slot (R3). -/
def rateMax : Nat := 7864320
def slotRate : Nat := 3840

/-- A rate in kb/s as slots: divided by 3,840 and rounded up; none outside 1 to 7,864,320 (R3). -/
def slotsOfRate (rate : Nat) : Option Nat :=
  if 1 ≤ rate ∧ rate ≤ rateMax then some ((rate + (slotRate - 1)) / slotRate) else none

/-- A demand in its form, as slots: 1 to 2,048 slots, or a rate of R3 (R2). -/
def demandOf (rateForm : Bool) (value : Nat) : Option Nat :=
  if rateForm then slotsOfRate value else if 1 ≤ value ∧ value ≤ 2048 then some value else none

/-- A floor in its form, as slots: absent when all of its 24 bits are zero (R201); the outer none is a field out of
range. Its bounds against the demand are judged by `recordOf`. -/
def floorOf (rateForm : Bool) (value : Nat) : Option (Option Nat) :=
  if rateForm then (slotsOfRate value).map some else if value = 0 then some none else some (some value)

/-- The floor lies between 1 and demand - 1, and an EXTRA record has none (R2). -/
def floorFits (cls : Class) (demand : Nat) : Option Nat → Bool
  | none => true
  | some f => decide (1 ≤ f) && decide (f < demand) && decide (cls ≠ .extra)

/-- The record in 16 bytes, judged field by field by R2 and R3: none where any field is refused with BAD_FIELD. -/
def recordOf (bs : List Byte) : Option Record :=
  let b1 := (byteAt bs 1).toNat
  let demandField := numAt bs 5 3
  let floorField := numAt bs 8 3
  let count := (byteAt bs 11).toNat
  match circuitOf (byteAt bs 0).toNat, classOf (b1 % 4), portOf (byteAt bs 2).toNat, portOf (byteAt bs 3).toNat,
    priorityOf (byteAt bs 4).toNat with
  | some number, some cls, some mast, some truck, some priority =>
    match demandOf (decide (2 ^ 23 ≤ demandField)) (demandField % 2 ^ 23),
      floorOf (decide (2 ^ 23 ≤ floorField)) (floorField % 2 ^ 23),
      allOf (fun b => laneOf b.toNat) (slice bs 12 count) with
    | some demand, some floor, some preference =>
      if count ≤ 4 ∧ preference.Nodup ∧ floorFits cls demand floor = true then
        some { number, direction := if 128 ≤ b1 then .up else .down, mastPort := mast, truckPort := truck, cls,
               priority, demand, floor, preference }
      else none
    | _, _, _ => none
  | _, _, _, _, _ => none

/-- A record in 16 bytes; demand and floor in the slot form (R201). -/
def recordBytes (r : Record) : List Byte :=
  bytesOfNat 1 r.number.val ++ bytesOfNat 1 (directionCode r.direction * 128 + classCode r.cls) ++
    bytesOfNat 1 r.mastPort.val ++ bytesOfNat 1 r.truckPort.val ++ bytesOfNat 1 r.priority.val ++
    bytesOfNat 3 r.demand ++ bytesOfNat 3 (r.floor.getD 0) ++ bytesOfNat 1 r.preference.length ++
    padTo 4 (r.preference.map fun l => BitVec.ofNat 8 l.val)

/-- The record bytes of an edit: a RETIRE gives its number and 15 zeros (R201). -/
def editBytes : Edit → List Byte
  | .add r => recordBytes r
  | .modify r => recordBytes r
  | .retire n => padTo 16 (bytesOfNat 1 n.val)

/-! ### Configuration fields -/

/-- A value moved to the nearer end of its range (R187, R189). -/
def clampTo (lo hi v : Nat) : Nat := if v < lo then lo else if hi < v then hi else v

/-- A parameter after a write: unchanged when its presence mark is absent, else the value clamped (R187). -/
def written (present : Bool) (lo hi v old : Nat) : Nat := if present then clampTo lo hi v else old

/-- Whether clamping changed a present value. -/
def wasClamped (present : Bool) (lo hi v : Nat) : Bool := present && decide (clampTo lo hi v ≠ v)

/-- A set of lanes, bit n for lane n (R200). -/
def lanesOfByte (b : Byte) : PerLane Bool := PerLane.ofFn fun l => b.getLsbD l.val

/-- A set of lanes as a number, bit n for lane n. -/
def laneSetCode (p : PerLane Bool) : Nat :=
  markCode p.l0 + 2 * markCode p.l1 + 4 * markCode p.l2 + 8 * markCode p.l3

/-- The byte of a cause set: bit 0 STRIKE, bit 1 STORM, bit 2 DRIVER, bit 3 THERMAL (R200). -/
def causesCode (c : Causes) : Nat :=
  markCode c.strike + 2 * markCode c.storm + 4 * markCode c.driver + 8 * markCode c.thermal

/-- The cause set of its byte; the other bits are not judged (R198). -/
def causesOf (b : Byte) : Causes := ⟨b.getLsbD 0, b.getLsbD 1, b.getLsbD 2, b.getLsbD 3⟩

end Sys2Proof.Machine
end

