-- ==== Sys2Proof/Machine/Formats.lean ====
section
/-! DEFINITION. The byte layouts of chapter 10: the lane superframe (R202), the two control messages and their halves
(R203), and answer frames (R200). Each layout is written and read here, and nowhere else. -/

namespace Sys2Proof.Machine

open Sys2Proof

/-! ### Control messages (R203) -/

/-- Three bytes of a lane report. -/
def laneReportBytes (r : LaneReport) : List Byte :=
  bytesOfNat 1 (kindCode r.kind * 16 + laneStateCode r.state) ++ [r.grade, r.score16]

/-- The lane report in three bytes at an offset; none where a code is not one that R200 lists. The grade is no coded field
(R203; assumption log 23). -/
def laneReportAt (bs : List Byte) (at_ : Nat) : Option LaneReport :=
  let b := (byteAt bs at_).toNat
  match kindOf (b / 16), laneStateOf (b % 16) with
  | some kind, some state => some { kind, state, grade := byteAt bs (at_ + 1), score16 := byteAt bs (at_ + 2) }
  | _, _ => none

/-- The twelve bytes of a receive lane report. -/
def laneReportsBytes (p : PerLane LaneReport) : List Byte :=
  laneReportBytes p.l0 ++ laneReportBytes p.l1 ++ laneReportBytes p.l2 ++ laneReportBytes p.l3

/-- The receive lane report in twelve bytes at an offset. -/
def laneReportsAt (bs : List Byte) (at_ : Nat) : Option (PerLane LaneReport) :=
  match laneReportAt bs at_, laneReportAt bs (at_ + 3), laneReportAt bs (at_ + 6), laneReportAt bs (at_ + 9) with
  | some a, some b, some c, some d => some ⟨a, b, c, d⟩
  | _, _, _, _ => none

/-- One direction of a view in four bits: usable, suspect, grade. -/
def dirViewCode (v : DirView) : Nat := markCode v.usable * 8 + markCode v.suspect * 4 + v.grade.val

/-- One direction of a view from its four bits. -/
def dirViewOf (n : Nat) : DirView where
  usable := decide (8 ≤ n % 16)
  suspect := decide (4 ≤ n % 8)
  grade := ⟨n % 4, Nat.mod_lt _ (by decide)⟩

/-- Two bytes of an order view for one lane. -/
def laneViewBytes (v : LaneView) : List Byte :=
  bytesOfNat 1 (kindCode v.kind) ++ bytesOfNat 1 (dirViewCode v.down * 16 + dirViewCode v.up)

/-- The order view of one lane in two bytes at an offset. -/
def laneViewAt (bs : List Byte) (at_ : Nat) : Option LaneView :=
  let b := (byteAt bs (at_ + 1)).toNat
  match kindOf (byteAt bs at_).toNat with
  | some kind => some { kind, down := dirViewOf (b / 16), up := dirViewOf b }
  | none => none

/-- The eight bytes of an order view. -/
def viewBytes (v : View) : List Byte :=
  laneViewBytes v.l0 ++ laneViewBytes v.l1 ++ laneViewBytes v.l2 ++ laneViewBytes v.l3

/-- The order view in eight bytes at an offset. -/
def viewAt (bs : List Byte) (at_ : Nat) : Option View :=
  match laneViewAt bs at_, laneViewAt bs (at_ + 2), laneViewAt bs (at_ + 4), laneViewAt bs (at_ + 6) with
  | some a, some b, some c, some d => some ⟨a, b, c, d⟩
  | _, _, _, _ => none

/-- A stamp in four bytes: generation, then order number. -/
def stampBytes (s : Stamp) : List Byte := bytesOfNat 2 s.generation.toNat ++ bytesOfNat 2 s.number.toNat

/-- The stamp in four bytes at an offset. -/
def stampAt (bs : List Byte) (at_ : Nat) : Stamp :=
  ⟨BitVec.ofNat 16 (numAt bs at_ 2), BitVec.ofNat 16 (numAt bs (at_ + 2) 2)⟩

/-- The commit mark, epoch, stamp and view of a pending order: message bytes 13 to 29. -/
def orderBytes : Option OrderField → List Byte
  | none => List.replicate 17 0
  | some o => bytesOfNat 1 (128 + markCode o.commitMark) ++ bytesOfNat 4 o.epoch.toNat ++ stampBytes o.stamp ++
      viewBytes o.view

/-- The order of message bytes 13 to 29; the outer none is a code that is not listed. -/
def orderIn (bs : List Byte) : Option (Option OrderField) :=
  let mark := (byteAt bs 13).toNat
  if mark < 128 then some none
  else
    match viewAt bs 22 with
    | some view => some (some { epoch := BitVec.ofNat 32 (numAt bs 14 4), stamp := stampAt bs 18, view,
                                commitMark := decide (mark % 2 = 1) })
    | none => none

/-- The edit kind and record of an item; NONE and zeros for an item without an edit. -/
def itemEditBytes : Option Edit → List Byte
  | none => List.replicate 17 0
  | some e => bytesOfNat 1 (editCode e) ++ editBytes e

/-- The item mark and item: message bytes 30 to 51. -/
def itemBytes (item : Option TransferItem) (paused : Bool) : List Byte :=
  match item with
  | none => bytesOfNat 1 (64 * markCode paused) ++ List.replicate 21 0
  | some i => bytesOfNat 1 (128 + 64 * markCode paused + modeCode i.mode) ++ bytesOfNat 2 i.target.toNat ++
      bytesOfNat 1 i.index ++ bytesOfNat 1 i.total ++ itemEditBytes i.edit

/-- The edit of an item by its kind byte, given the 16 record bytes: the outer none is a kind that is not listed, the
inner none an edit whose record does not have the values of R1 (assumption log 7). -/
def itemEditOf (kind : Nat) (record : List Byte) : Option (Option Edit) :=
  match kind with
  | 1 => some ((recordOf record).map .add)
  | 2 => some ((recordOf record).map .modify)
  | 3 => some ((circuitOf (byteAt record 0).toNat).map .retire)
  | _ => none

/-- The item of message bytes 30 to 51; the outer none is a code that is not listed. An edit kind with a record that is
none of R1's is given as an item without the edit that its total asks for, which R17 ignores as malformed. -/
def itemIn (bs : List Byte) : Option (Option TransferItem) :=
  let mark := (byteAt bs 30).toNat
  if mark < 128 then some none
  else
    let target := BitVec.ofNat 16 (numAt bs 31 2)
    let mode := if mark % 2 = 1 then StageMode.full else StageMode.change
    let index := (byteAt bs 33).toNat
    let total := (byteAt bs 34).toNat
    if (byteAt bs 35).toNat = 0 then some (some { target, mode, index, total, edit := none })
    else
      match itemEditOf (byteAt bs 35).toNat (slice bs 36 16) with
      | none => none
      | some none => some (some { target, mode, index, total := max 1 total, edit := none })
      | some (some e) => some (some { target, mode, index, total, edit := some e })

/-- Posture and supply in bits 1 and 0. -/
def postureBits (stormOn deadBand : Bool) : Nat := 2 * markCode stormOn + markCode deadBand

/-- Message bytes 0 to 115 of a steering message. -/
def steeringBytes (m : Steering) : List Byte :=
  [0x01] ++ bytesOfNat 2 m.cycle.toNat ++ bytesOfNat 1 (linkStateCode m.link) ++ bytesOfNat 2 m.generation.toNat ++
    stampBytes m.stamp ++ bytesOfNat 1 m.c ++ bytesOfNat 2 m.lead ++ orderBytes m.order ++ itemBytes m.item m.paused ++
    laneReportsBytes m.lanes ++ bytesOfNat 1 (postureBits m.stormOn m.deadBand) ++ List.replicate 51 0

/-- The C and lead of a message lie in their ranges (R203). -/
def timingListed (c lead : Nat) : Bool :=
  decide (2 ≤ c) && decide (c ≤ 64) && decide (24 ≤ lead) && decide (lead ≤ 4096)

/-- The steering message of message bytes 0 to 115; none when the kind differs, a code is not listed, or C or the lead
lies outside its range (R203). -/
def steeringOf (bs : List Byte) : Option Steering :=
  if byteAt bs 0 ≠ 0x01 then none
  else
    match linkStateOf (byteAt bs 3).toNat, orderIn bs, itemIn bs, laneReportsAt bs 52 with
    | some link, some order, some item, some lanes =>
      if timingListed (byteAt bs 10).toNat (numAt bs 11 2) then
        some { cycle := BitVec.ofNat 16 (numAt bs 1 2), link, generation := BitVec.ofNat 16 (numAt bs 4 2),
               stamp := stampAt bs 6, c := (byteAt bs 10).toNat, lead := numAt bs 11 2, order, item,
               paused := (byteAt bs 30).getLsbD 6, lanes, stormOn := (byteAt bs 64).getLsbD 1,
               deadBand := (byteAt bs 64).getLsbD 0 }
      else none
    | _, _, _, _ => none

/-- Message bytes 0 to 115 of a mast reply. -/
def replyBytes (m : Reply) : List Byte :=
  [0x02] ++ bytesOfNat 2 m.echo.toNat ++ bytesOfNat 1 (linkStateCode m.link) ++ bytesOfNat 2 m.generation.toNat ++
    bytesOfNat 1 (128 * markCode m.stageTarget.isSome + modeCode m.stageMode) ++
    bytesOfNat 2 (m.stageTarget.getD 0).toNat ++ bytesOfNat 1 m.held ++ stampBytes m.stamp ++
    stampBytes (m.ready.getD Stamp.zero) ++ bytesOfNat 1 (4 * markCode m.blank + postureBits m.stormOn m.deadBand) ++
    laneReportsBytes m.lanes ++ bytesOfNat 1 (causesCode m.causes.l0) ++ bytesOfNat 1 (causesCode m.causes.l1) ++
    bytesOfNat 1 (causesCode m.causes.l2) ++ bytesOfNat 1 (causesCode m.causes.l3) ++ List.replicate 81 0

/-- The mast reply of message bytes 0 to 115; none when the kind differs or a code is not listed (R203). -/
def replyOf (bs : List Byte) : Option Reply :=
  if byteAt bs 0 ≠ 0x02 then none
  else
    match linkStateOf (byteAt bs 3).toNat, laneReportsAt bs 19 with
    | some link, some lanes =>
      some { echo := BitVec.ofNat 16 (numAt bs 1 2), link, generation := BitVec.ofNat 16 (numAt bs 4 2),
             stageTarget := if (byteAt bs 6).getLsbD 7 then some (BitVec.ofNat 16 (numAt bs 7 2)) else none,
             stageMode := if (byteAt bs 6).getLsbD 0 then .full else .change,
             held := (byteAt bs 9).toNat, stamp := stampAt bs 10,
             ready := if stampAt bs 14 = Stamp.zero then none else some (stampAt bs 14),
             blank := (byteAt bs 18).getLsbD 2, lanes,
             causes := ⟨causesOf (byteAt bs 31), causesOf (byteAt bs 32), causesOf (byteAt bs 33),
                        causesOf (byteAt bs 34)⟩,
             stormOn := (byteAt bs 18).getLsbD 1, deadBand := (byteAt bs 18).getLsbD 0 }
    | _, _ => none

/-- The second half of a message without its check: the mark SECOND and message bytes 59 to 115. -/
def secondUnchecked (msg : List Byte) : List Byte := 0x02 :: slice msg 59 57

/-- The first half of a message: the mark FIRST and message bytes 0 to 58 (R101, R203). -/
def firstHalf (msg : List Byte) : List Byte := 0x01 :: slice msg 0 59

/-- The second half of a message, with the message check in its bytes 58 and 59 (R203). -/
def secondHalf (msg : List Byte) : List Byte :=
  secondUnchecked msg ++ crc16Bytes (firstHalf msg ++ secondUnchecked msg)

/-- The message of a copy, when its check is good (R103, R203). -/
def checkedMessage (first second : List Byte) : Option (List Byte) :=
  if crc16Bytes (first ++ second.take 58) = slice second 58 2 then some (slice first 1 59 ++ slice second 1 57) else none

/-- An empty control slot: 60 bytes of zero (R56, R101). -/
def emptySlot : List Byte := List.replicate Config.cellBytes 0

/-! ### The lane superframe (R202) -/

/-- The 13 bytes of a header. -/
def headerBytes (lane : Fin 4) (count : Count) (stamp : Stamp) : List Byte :=
  let front := [0xE2, 0x59] ++ bytesOfNat 1 lane.val ++ bytesOfNat 4 count.toNat ++ stampBytes stamp
  front ++ crc16Bytes front

/-- One slot on the line: its tag byte and its cell; a FILL slot's cell is 60 bytes of zero. -/
def slotLine : PayloadSlot → List Byte
  | .data cell => 0xA5 :: padTo Config.cellBytes cell
  | .fill => 0x5A :: List.replicate Config.cellBytes 0

/-- One block on the line: its slots and the block check over them. -/
def blockLine (slots : List PayloadSlot) : List Byte :=
  let body := slots.flatMap slotLine
  body ++ crc16Bytes body

/-- The blocks of a payload region of so many blocks, in ascending number. -/
def blocksLine : Nat → List PayloadSlot → List Byte
  | 0, _ => []
  | n + 1, slots => blockLine (slots.take Config.blockSlots) ++ blocksLine n (slots.drop Config.blockSlots)

/-- A superframe as it goes on the line: header, control slot, blocks. -/
def SentFrame.line (f : SentFrame) : List Byte :=
  headerBytes f.lane f.count f.stamp ++ padTo Config.cellBytes f.control ++
    blocksLine (f.slots.length / Config.blockSlots) f.slots

/-- A header whose sync, lane number and check are good: its count and stamp (R57, R202). -/
def headerOf (lane : Fin 4) (bs : List Byte) : Option (Count × Stamp) :=
  if slice bs 0 2 = [0xE2, 0x59] ∧ (byteAt bs 2).toNat = lane.val ∧ crc16Bytes (slice bs 0 11) = slice bs 11 2 then
    some (BitVec.ofNat 32 (numAt bs 3 4), stampAt bs 7)
  else none

/-- The control slot of a superframe. -/
def controlOf (bs : List Byte) : List Byte := slice bs 13 Config.cellBytes

/-- The payload region of a superframe cut into so many blocks. -/
def blocksOf : Nat → List Byte → List (List Byte)
  | 0, _ => []
  | n + 1, bs => bs.take Config.blockBytes :: blocksOf n (bs.drop Config.blockBytes)

/-- The blocks of a superframe, for a layout of so many slots. -/
def frameBlocks (capacity : Nat) (bs : List Byte) : List (List Byte) :=
  blocksOf (capacity / Config.blockSlots) (bs.drop 73)

/-- The block check of a block is good. -/
def blockGood (b : List Byte) : Bool := decide (crc16Bytes (slice b 0 976) = slice b 976 2)

/-- What a slot of a good block hands over; a tag that is neither A5 nor 5A hex is the mark "bad" (R202). -/
def slotOf (bs : List Byte) : Option PayloadSlot :=
  if byteAt bs 0 = 0xA5 then some (.data (slice bs 1 Config.cellBytes))
  else if byteAt bs 0 = 0x5A then some .fill
  else none

/-- The slots of a good block, so many of them. -/
def slotsOf : Nat → List Byte → List (Option PayloadSlot)
  | 0, _ => []
  | n + 1, bs => slotOf (bs.take Config.slotBytes) :: slotsOf n (bs.drop Config.slotBytes)

/-! ### Answer frames (R200) -/

/-- The bytes of an answer item. -/
def Field.line : Field → List Byte
  | .num size value => bytesOfNat size value
  | .bytes bs => bs
  | .uncoded what => [Config.stateCode what]
  | .identity what => Config.identityBytes what

/-- The bytes of an answer body: its items in order. -/
def bodyLine (fs : List Field) : List Byte := fs.flatMap Field.line

/-- The status byte: attention in bit 7, answer ready in bit 6, commit in progress in bit 5 (R184, R200). -/
def statusByte (attention ready commit : Bool) : Byte :=
  BitVec.ofNat 8 (128 * markCode attention + 64 * markCode ready + 32 * markCode commit)

/-- An answer frame with its status byte as formed at shift-out (R183, R200). -/
def answerLine (status : Byte) (a : Answer) : List Byte :=
  let body := bodyLine a.body
  let front := status :: a.request :: answerCodeByte a.code :: BitVec.ofNat 8 body.length :: body
  front ++ [crc8 front]

end Sys2Proof.Machine
end

