-- ==== Sys2Proof/Machine/Flags.lean ====
section
/-! DEFINITION. Event flags and attention (R190 to R192) and saturating counters (0.4, R177). -/

namespace Sys2Proof.Machine

open Sys2Proof

/-- The sixteen event flags, in the order of R190. -/
inductive Flag where
  | lane
  | grade
  | link
  | orderTaken
  | serviceReduced
  | commitDone
  | commitAbandoned
  | callFailed
  | planMismatch
  | strike
  | storm
  | driver
  | supply
  | poolFull
  | counterSat
  | badRequest
deriving DecidableEq, Repr

/-- The bit of a flag in EVENTS and EVENT MASK: LANE at bit 15, BAD_REQUEST at bit 0 (R200). -/
def flagBit : Flag → Nat
  | .lane => 15
  | .grade => 14
  | .link => 13
  | .orderTaken => 12
  | .serviceReduced => 11
  | .commitDone => 10
  | .commitAbandoned => 9
  | .callFailed => 8
  | .planMismatch => 7
  | .strike => 6
  | .storm => 5
  | .driver => 4
  | .supply => 3
  | .poolFull => 2
  | .counterSat => 1
  | .badRequest => 0

/-- The word with one flag set. -/
def flagWord (f : Flag) : BitVec 16 := BitVec.twoPow 16 (flagBit f)

/-- Sets a flag; one already set stays set (R190). -/
def raise (f : Flag) (s : State) : State := { s with host := { s.host with flags := s.host.flags ||| flagWord f } }

/-- Sets a flag when a condition holds. -/
def raiseIf (b : Bool) (f : Flag) (s : State) : State := if b then raise f s else s

/-- Whether a flag is set. -/
def flagSet (f : Flag) (s : State) : Bool := s.host.flags.getLsbD (flagBit f)

/-- The attention line: asserted while a flag is set whose mark is enabled (R192). -/
def attention (s : State) : Bool := decide (s.host.flags &&& s.host.mask ≠ 0)

/-- A counter advanced by `n`, staying at its limit once there (0.4, R177). -/
def satAdd (limit old n : Nat) : Nat := min limit (old + n)

/-- The advance brings the counter to its limit from below (R177). -/
def satHit (limit old n : Nat) : Bool := decide (old < limit) && decide (limit ≤ old + n)

end Sys2Proof.Machine
end

