-- ==== Sys2Proof/Machine/Table.lean ====
section
/-! DEFINITION. The circuit table (chapter 1): bindings, lookup, the application of edits, the projected table and the
merge of a staging request into the change set. -/

namespace Sys2Proof.Machine

open Sys2Proof

/-! ### Sides and bindings -/

/-- The end that sends circuits of a direction (R4). -/
def senderOf : Direction → Role
  | .down => .mast
  | .up => .truck

/-- The direction that an end sends (chapter 3). -/
def sentDirection : Role → Direction
  | .mast => .down
  | .truck => .up

/-- The direction that an end receives (chapter 3). -/
def receivedDirection : Role → Direction
  | .mast => .up
  | .truck => .down

/-- The port of a record at an end (R1). -/
def portAt (role : Role) (r : Record) : Fin 32 :=
  match role with
  | .mast => r.mastPort
  | .truck => r.truckPort

/-- Two records hold conflicting bindings: the same direction, and the same port at one end (R4). Records of opposite
directions bind different sides of a port. -/
def conflicts (r q : Record) : Bool :=
  decide (r.direction = q.direction) && (decide (r.mastPort = q.mastPort) || decide (r.truckPort = q.truckPort))

/-- No two different records of the list conflict (R6, R12). -/
def conflictFree (rs : List Record) : Bool :=
  rs.all fun r => rs.all fun q => decide (r.number = q.number) || !conflicts r q

/-! ### LIVE slots in ascending number -/

/-- The LIVE slot with a number (R6). -/
def slotAt (slots : List Slot) (n : Fin 64) : Option Slot := slots.find? fun x => decide (x.record.number = n)

/-- The record with a number. -/
def recordAt (rs : List Record) (n : Fin 64) : Option Record := rs.find? fun r => decide (r.number = n)

/-- The records of the LIVE slots, in ascending number. -/
def recordsOf (slots : List Slot) : List Record := slots.map (·.record)

/-- Writes a slot at its number, in place or in order. -/
def putSlot (x : Slot) : List Slot → List Slot
  | [] => [x]
  | y :: ys =>
    if x.record.number < y.record.number then x :: y :: ys
    else if x.record.number = y.record.number then x :: ys
    else y :: putSlot x ys

/-- Writes a record at its number, in place or in order. -/
def putRecord (r : Record) : List Record → List Record
  | [] => [r]
  | q :: qs =>
    if r.number < q.number then r :: q :: qs else if r.number = q.number then r :: qs else q :: putRecord r qs

/-- Makes a number FREE. -/
def eraseSlot (n : Fin 64) (slots : List Slot) : List Slot := slots.filter fun x => decide (x.record.number ≠ n)

/-- Makes a number FREE in a list of records. -/
def eraseRecord (n : Fin 64) (rs : List Record) : List Record := rs.filter fun r => decide (r.number ≠ n)

/-- The LIVE slot whose transmit binding at this end is this port (R161). -/
def transmitSlot (role : Role) (slots : List Slot) (port : Fin 32) : Option Slot :=
  slots.find? fun x => decide (x.record.direction = sentDirection role) && decide (portAt role x.record = port)

/-- The LIVE slot whose receive binding at this end is this port (R4). -/
def receiveSlot (role : Role) (slots : List Slot) (port : Fin 32) : Option Slot :=
  slots.find? fun x => decide (x.record.direction = receivedDirection role) && decide (portAt role x.record = port)

/-! ### Applying edits -/

/-- The number an edit is for (R8). -/
def editNumber : Edit → Fin 64
  | .add r => r.number
  | .modify r => r.number
  | .retire n => n

/-- A slot made LIVE afresh: counters at zero and an empty queue (R20, R22, R173). -/
def newSlot (r : Record) : Slot := ⟨r, CircuitCounters.zero, []⟩

/-- A MODIFY of a LIVE slot (R20, R173): the host part is replaced, the counters are kept, and where this end is then
the receiving end its queue is emptied with each cell counted on dropped. -/
def modifySlot (role : Role) (r : Record) (x : Slot) : Slot :=
  if senderOf r.direction = role then { x with record := r }
  else
    { record := r, queue := [],
      counters := { x.counters with dropped := satAdd Config.counterMax x.counters.dropped x.queue.length } }

/-- The MODIFY of a LIVE slot brings its dropped counter to saturation (R177). -/
def modifySaturates (role : Role) (r : Record) (x : Slot) : Bool :=
  !decide (senderOf r.direction = role) && satHit Config.counterMax x.counters.dropped x.queue.length

/-- One edit applied to the LIVE slots at an end (R20, R21, R173). A MODIFY of a FREE number makes it LIVE (R21). -/
def applyEdit (role : Role) (slots : List Slot) : Edit → List Slot
  | .add r => putSlot (newSlot r) slots
  | .modify r =>
    match slotAt slots r.number with
    | some x => putSlot (modifySlot role r x) slots
    | none => putSlot (newSlot r) slots
  | .retire n => eraseSlot n slots

/-- Whether applying an edit brings a counter to saturation. -/
def editSaturates (role : Role) (slots : List Slot) : Edit → Bool
  | .modify r =>
    match slotAt slots r.number with
    | some x => modifySaturates role r x
    | none => false
  | _ => false

/-- Edits applied one at a time, in list order (R20, R21). -/
def applyEdits (role : Role) : List Slot → List Edit → List Slot
  | slots, [] => slots
  | slots, e :: es => applyEdits role (applyEdit role slots e) es

/-- Whether applying the edits brings a counter to saturation. -/
def editsSaturate (role : Role) : List Slot → List Edit → Bool
  | _, [] => false
  | slots, e :: es => editSaturates role slots e || editsSaturate role (applyEdit role slots e) es

/-- One edit applied to records (R9). -/
def projectEdit (rs : List Record) : Edit → List Record
  | .add r => putRecord r rs
  | .modify r => putRecord r rs
  | .retire n => eraseRecord n rs

/-- The projected table: the records with the edits applied in list order (R9). -/
def projected (rs : List Record) (es : List Edit) : List Record := es.foldl projectEdit rs

/-- The record of an edit. -/
def editRecord : Edit → Option Record
  | .add r => some r
  | .modify r => some r
  | .retire _ => none

/-- The slots that adopting a full-sync list leaves LIVE (R22). -/
def adoptEdits (es : List Edit) : List Slot := applyEdits .mast [] es

/-- The successor of a generation: 65,535 is followed by 1 (R7). The order number counts the same way (R139). -/
def successor (g : Word16) : Word16 := if g = 65535 then 1 else g + 1

/-! ### The change set -/

/-- The edit held for a number (R8). Of two items of one number in a stage area, which R17 does not rule out, it is the one
with the lower index (assumption log 56). -/
def heldEdit (es : List Edit) (n : Fin 64) : Option Edit := es.find? fun e => decide (editNumber e = n)

/-- The position of the edit held for a number. -/
def editPosition (es : List Edit) (n : Fin 64) : Nat := es.findIdx fun e => decide (editNumber e = n)

/-- The edit of a number replaced in its position. -/
def replaceEdit (es : List Edit) (n : Fin 64) (new : Edit) : List Edit :=
  es.map fun e => if editNumber e = n then new else e

/-- The edit of a number removed; the list closes up (R8). -/
def removeEdit (es : List Edit) (n : Fin 64) : List Edit := es.filter fun e => decide (editNumber e ≠ n)

/-- The number is LIVE in the projected table (R9). -/
def projectedLive (rs : List Record) (es : List Edit) (n : Fin 64) : Bool :=
  match heldEdit es n with
  | some (.retire _) => false
  | some _ => true
  | none => (recordAt rs n).isSome

/-- The merge table of R11 for a request that R10's test 5 has passed. -/
def mergeEdit (es : List Edit) (request : Edit) : List Edit :=
  let n := editNumber request
  match heldEdit es n, request with
  | none, _ => es ++ [request]
  | some (.add _), .modify r => replaceEdit es n (.add r)
  | some (.add _), .retire _ => removeEdit es n
  | some (.retire _), .add r => replaceEdit es n (.modify r)
  | some _, _ => replaceEdit es n request

/-- Test 5 of R10 on a request: EXISTS for an ADD of a LIVE number, NO_RECORD for a MODIFY or RETIRE of a FREE one. -/
def existenceRefusal (rs : List Record) (es : List Edit) (request : Edit) : Option AnswerCode :=
  let live := projectedLive rs es (editNumber request)
  match request with
  | .add _ => if live then some .exists_ else none
  | _ => if live then none else some .noRecord

/-- Test 6 of R10: the bindings of the request's record against those of every other LIVE record of the final projected
table (R12). -/
def bindingTaken (rs : List Record) (es : List Edit) (request : Edit) : Bool :=
  match editRecord request with
  | none => false
  | some r => (projected rs (mergeEdit es request)).any fun q => decide (q.number ≠ r.number) && conflicts r q

/-- Tests 5 to 7 of R10 and the merge of R11: the first refusal, or the change set afterwards. -/
def stageEdit (rs : List Record) (es : List Edit) (request : Edit) : Except AnswerCode (List Edit) :=
  match existenceRefusal rs es request with
  | some code => .error code
  | none =>
    if bindingTaken rs es request then .error .portTaken
    else if (heldEdit es (editNumber request)).isNone ∧ Config.changeSetSize ≤ es.length then .error .setFull
    else .ok (mergeEdit es request)

/-! ### The stage area -/

/-- The stage is complete: a target is held and the held count equals the total (R16). -/
def StageArea.complete (a : StageArea) : Bool := a.target.isSome && decide (a.items.length = a.total)

/-- A transfer item is malformed (R17). -/
def itemMalformed (i : TransferItem) : Bool :=
  !(match i.mode with
    | .change => decide (1 ≤ i.total) && decide (i.total ≤ 16)
    | .full => decide (i.total ≤ 64)) ||
  (if i.total = 0 then decide (i.index ≠ 0) || i.edit.isSome else decide (i.total ≤ i.index) || i.edit.isNone) ||
  (match i.mode, i.edit with
    | .full, some (.add _) => false
    | .full, some _ => true
    | _, _ => false)

/-- The item joins a stage whose header it matches: appended when its index is the held count, ignored otherwise
(R17). -/
def appendItem (i : TransferItem) (a : StageArea) : StageArea :=
  match i.edit with
  | some e => if i.index = a.items.length then { a with items := a.items ++ [e] } else a
  | none => a

/-- The judgement of a transfer item by a mast end that holds a generation and is in DEAD_BAND or not (R17). -/
def judgeItem (deadBand : Bool) (generation : Word16) (i : TransferItem) (a : StageArea) : StageArea :=
  if deadBand then a
  else if itemMalformed i then a
  else if i.target = generation then a
  else if a.target = some i.target ∧ a.mode = i.mode ∧ a.total = i.total then appendItem i a
  else appendItem i ⟨some i.target, i.mode, i.total, []⟩

end Sys2Proof.Machine
end

