-- ==== Sys2Proof/Machine/Planner.lean ====
section
/-! DEFINITION. The planner (chapter 2): capacities, placement, plan records, planning runs, and the plan in force. -/

namespace Sys2Proof.Machine

open Sys2Proof

/-! ### Capacity and view -/

/-- Slots of a kind at grade 0 (R27). -/
def baseSlots : Kind → Nat
  | .optical => 2048
  | .radio => 256
  | .copper => 32

/-- The maximum grade of a kind (R27, R49). -/
def maxGrade : Kind → Nat
  | .optical => 1
  | .radio => 3
  | .copper => 1

/-- The capacity of a kind at a grade; a grade above the kind's maximum is taken as that maximum (R27). -/
def capacityOf (kind : Kind) (grade : Nat) : Nat := baseSlots kind / 2 ^ min grade (maxGrade kind)

/-- The fields of a view for a lane and a direction (R28). -/
def viewDir (v : View) (d : Direction) (l : Fin 4) : DirView :=
  match d with
  | .down => (v.get l).down
  | .up => (v.get l).up

/-- The number of payload slots that a view lays out on a lane in a direction, usable or not (R55). -/
def layoutCapacity (v : View) (d : Direction) (l : Fin 4) : Nat :=
  capacityOf (v.get l).kind (viewDir v d l).grade.val

/-- The capacity the planner sets: 0 where the lane is not usable for the direction (R29). -/
def planCapacity (v : View) (d : Direction) (l : Fin 4) : Nat :=
  if (viewDir v d l).usable then layoutCapacity v d l else 0

/-! ### Placement order and candidates -/

/-- The rank of a class in placement order (R30). -/
def classRank : Class → Nat
  | .prot => 0
  | .standard => 1
  | .extra => 2

/-- One key for the three of R30: class, then priority, then number. -/
def placementKey (r : Record) : Nat := (classRank r.cls * 16 + r.priority.val) * 64 + r.number.val

/-- A record put into a list sorted by placement key. -/
def insertPlaced (r : Record) : List Record → List Record
  | [] => [r]
  | q :: qs => if placementKey r ≤ placementKey q then r :: q :: qs else q :: insertPlaced r qs

/-- The circuits of a direction in placement order (R30). -/
def placementOrder (d : Direction) (table : List Record) : List Record :=
  (table.filter fun r => decide (r.direction = d)).foldr insertPlaced []

/-- The candidate list of a circuit (R31): the usable lanes of its preference in its order, or every usable lane in
ascending number; then the suspect lanes moved to the end. -/
def candidates (v : View) (r : Record) : List (Fin 4) :=
  let wanted := if r.preference = [] then laneNumbers else r.preference
  let usable := wanted.filter fun l => (viewDir v r.direction l).usable
  usable.filter (fun l => !(viewDir v r.direction l).suspect) ++ usable.filter fun l => (viewDir v r.direction l).suspect

/-! ### Placement -/

/-- The candidate lanes that fit an amount of slots, in candidate order (R32). -/
def fitting (rooms : PerLane LaneRoom) (lanes : List (Fin 4)) (amount : Nat) : List (Fin 4) :=
  lanes.filter fun l => decide (amount ≤ (rooms.get l).remaining)

/-- What one step of R33 or R34 gives a circuit. -/
structure Placing where
  served : Served
  laneA : Option (Fin 4)
  laneB : Option (Fin 4)
  slots : Nat
deriving DecidableEq, Repr

/-- A step that needs two lanes (R33). -/
def tryTwo (rooms : PerLane LaneRoom) (lanes : List (Fin 4)) (served : Served) (amount : Nat) : Option Placing :=
  match fitting rooms lanes amount with
  | a :: b :: _ => some ⟨served, some a, some b, amount⟩
  | _ => none

/-- A step that needs one lane (R33, R34). -/
def tryOne (rooms : PerLane LaneRoom) (lanes : List (Fin 4)) (served : Served) (amount : Nat) : Option Placing :=
  match fitting rooms lanes amount with
  | a :: _ => some ⟨served, some a, none, amount⟩
  | [] => none

/-- SHED: no lane and no slots (R36). -/
def shedPlacing : Placing := ⟨.shed, none, none, 0⟩

/-- The first step of R33 or R34 that succeeds for a circuit. -/
def choosePlacing (rooms : PerLane LaneRoom) (lanes : List (Fin 4)) (r : Record) : Placing :=
  match r.cls with
  | .prot =>
    (tryTwo rooms lanes .fullDual r.demand).getD <|
    (r.floor.bind (tryTwo rooms lanes .floorDual)).getD <|
    (tryOne rooms lanes .fullSingle r.demand).getD <|
    (r.floor.bind (tryOne rooms lanes .floorSingle)).getD shedPlacing
  | .standard =>
    (tryOne rooms lanes .fullSingle r.demand).getD <|
    (r.floor.bind (tryOne rooms lanes .floorSingle)).getD shedPlacing
  | .extra => (tryOne rooms lanes .fullSingle r.demand).getD shedPlacing

/-- The first slot of a run formed now on a lane: its capacity minus its remaining capacity (R35). -/
def firstSlot (rooms : PerLane LaneRoom) (l : Fin 4) : Nat := (rooms.get l).capacity - (rooms.get l).remaining

/-- The rooms after a lane gives up slots (R35). -/
def takeRoom (rooms : PerLane LaneRoom) (lane : Option (Fin 4)) (amount : Nat) : PerLane LaneRoom :=
  match lane with
  | none => rooms
  | some l => rooms.set l { rooms.get l with remaining := (rooms.get l).remaining - amount }

/-- The entry of a circuit placed now (R35, R37). -/
def entryFor (rooms : PerLane LaneRoom) (position : Nat) (r : Record) (p : Placing) : Entry where
  number := r.number
  cls := r.cls
  position := position
  served := p.served
  laneA := p.laneA.map fun l => ⟨l, firstSlot rooms l⟩
  laneB := p.laneB.map fun l => ⟨l, firstSlot rooms l⟩
  slots := p.slots

/-- Circuits placed one at a time, in the order of the list, from a position and rooms on (R30, R35). -/
def placeAll (v : View) : List Record → Nat → PerLane LaneRoom → DirPlan
  | [], _, rooms => ⟨rooms, []⟩
  | r :: rs, position, rooms =>
    let p := choosePlacing rooms (candidates v r) r
    let after := takeRoom (takeRoom rooms p.laneA p.slots) p.laneB p.slots
    let rest := placeAll v rs (position + 1) after
    ⟨rest.rooms, entryFor rooms position r p :: rest.entries⟩

/-- The rooms of a direction before any circuit is placed (R29). -/
def startRooms (v : View) (d : Direction) : PerLane LaneRoom :=
  PerLane.ofFn fun l => ⟨planCapacity v d l, planCapacity v d l⟩

/-- One direction of the plan of a table and a view (R30 to R36). -/
def planDirection (v : View) (table : List Record) (d : Direction) : DirPlan :=
  placeAll v (placementOrder d table) 0 (startRooms v d)

/-- The plan of a table and a view, with its stamp (R37, R39). -/
def computePlan (stamp : Stamp) (v : View) (table : List Record) : Plan :=
  ⟨stamp, v, table.length, planDirection v table .down, planDirection v table .up⟩

/-! ### Reading a plan -/

/-- One direction of a plan. -/
def Plan.direction (p : Plan) : Direction → DirPlan
  | .down => p.down
  | .up => p.up

/-- The entry of a circuit in one direction. -/
def DirPlan.entry (d : DirPlan) (n : Fin 64) : Option Entry := d.entries.find? fun e => decide (e.number = n)

/-- The entry of a circuit, with its direction. -/
def Plan.entry (p : Plan) (n : Fin 64) : Option (Direction × Entry) :=
  match p.down.entry n with
  | some e => some (.down, e)
  | none => (p.up.entry n).map fun e => (.up, e)

/-- All entries of a plan. -/
def Plan.entries (p : Plan) : List Entry := p.down.entries ++ p.up.entries

/-- The runs of an entry: lane A's, and lane B's for a dual placement. -/
def Entry.runs (e : Entry) : List SlotRun := e.laneA.toList ++ e.laneB.toList

/-- The rank of a served status, 1 for the best (R38). -/
def servedRank : Served → Nat
  | .fullDual => 1
  | .floorDual => 2
  | .fullSingle => 3
  | .floorSingle => 4
  | .shed => 5

/-- The entries of each served status in a direction (R48). -/
def countServed (d : DirPlan) (s : Served) : Nat := (d.entries.filter fun e => decide (e.served = s)).length

/-- The runs placed on a lane in a direction (R48). -/
def countRuns (d : DirPlan) (l : Fin 4) : Nat :=
  ((d.entries.flatMap Entry.runs).filter fun r => decide (r.lane = l)).length

/-! ### Planning runs and the plan in force -/

/-- The length of a run over N LIVE records: ceil(N / 4) superframes, at least 1 (R41). -/
def runLength (live : Nat) : Nat := max 1 ((live + 3) / 4)

/-- Starts a planning run. A run in progress is abandoned, and the next plan held then is discarded with it; with no run in
progress a next plan stays (R41, R47; assumption log 40). -/
def startRun (stamp : Stamp) (view : View) (table : List Record) (s : State) : State :=
  { s with planner := { s.planner with
      run := some ⟨stamp, view, table, s.count, s.count + BitVec.ofNat 32 (runLength table.length)⟩,
      next := if s.planner.run.isSome then none else s.planner.next } }

/-- The plan in force: the current plan when its stamp is the stamp in force, from the superframe after a run's end that
made it current (R40, R42). -/
def planInForce (s : State) : Option Plan :=
  match s.planner.current with
  | some p => if p.stamp = s.orders.stamp ∧ s.planner.fresh = false then some p else none
  | none => none

/-- The planner's records when a stamp is put in force (R44). The queue limits stay those of the most recently computed plan
(R148, R164, R172), also where that plan is the next plan discarded here and R44 names the plan kept (assumption log 42). -/
def takePlan (stamp : Stamp) (p : Planner) : Planner :=
  match p.next with
  | some plan => if plan.stamp = stamp then { p with current := some plan, next := none, fresh := false }
                 else { p with next := none }
  | none => p

/-- The limit of a circuit's queue: twice its slot count in the most recently computed plan (R164). -/
def queueLimit (limits : Option Plan) (n : Fin 64) : Nat :=
  match limits with
  | none => 0
  | some p =>
    match p.entry n with
    | some (_, e) => 2 * e.slots
    | none => 0

/-- The mast end is in BLANK: a stamp but no plan in force, or the mismatch condition (R148). -/
def inBlank (s : State) : Bool :=
  decide (s.role = .mast) &&
    ((decide (s.orders.stamp ≠ Stamp.zero) && (planInForce s).isNone) || s.orders.mismatch)

end Sys2Proof.Machine
end

