-- ==== Sys2Proof/Machine/Ops.lean ====
section
/-! DEFINITION. The operations that the commands share: answering a request, moving a lane, changing a cause set or the
storm level, trimming queues, and moving the link with all that a move drops (R130, R131). -/

namespace Sys2Proof.Machine

open Sys2Proof

/-! ### Commands and requests -/

/-- The part is held in hard reset (R195). -/
def inReset (s : State) : Bool := s.resetting.powerOn || s.resetting.pin || s.resetting.supply

/-- A command that the part takes only while it runs: in hard reset it drives nothing and judges nothing (R197). -/
def running (s : State) (f : State → State) : Host.Outcome State Fault Refusal :=
  if inReset s then .next s else .next (f s)

/-- Forms the answer of a request; it replaces any answer held (R183). -/
def respond (request : Byte) (code : AnswerCode) (body : List Field) (s : State) : State :=
  { s with host := { s.host with held := some ⟨request, code, body⟩ } }

/-- A request whose frame has passed R181 but for its body length: BAD_FIELD for a body of another length than the
form's, else the request is executed. -/
def request (code : Byte) (length : Nat) (body : List Byte) (s : State) (f : State → State) :
    Host.Outcome State Fault Refusal :=
  running s fun s => if body.length = length then f s else respond code .badField [] s

/-! ### Supply freeze -/

/-- The mast end's supply state as the truck end knows it: NORMAL while no mast reply is held (R94, R116). -/
def farDeadBand (s : State) : Bool :=
  match s.chan.fromMast with
  | some (m, _) => m.deadBand
  | none => false

/-- Neither end may change its table: this end's supply, or the mast end's in the latest reply, is in DEAD_BAND
(R94). -/
def frozen (s : State) : Bool := decide (s.prot.supply = .deadBand) || farDeadBand s

/-! ### Lanes -/

/-- The aligned states (3.5). -/
def alignedState : LaneState → Bool
  | .recovering => true
  | .admitting => true
  | .inService => true
  | .suspect => true
  | _ => false

/-- The usable states (R65). -/
def usableState : LaneState → Bool
  | .inService => true
  | .suspect => true
  | _ => false

/-- The effective grade of a lane port (R49). -/
def effectiveGrade (lane : Lane) : Nat := min lane.gradeInput.val (maxGrade lane.kind)

/-- Writes a lane; LANE is set when its state changes (R69). -/
def changeLane (l : Fin 4) (new : Lane) (s : State) : State :=
  raiseIf (decide (new.state ≠ (s.lanes.get l).state)) .lane { s with lanes := s.lanes.set l new }

/-- A lane in a state, with its runs and hold count discarded (R61, R62, R67, R68). -/
def Lane.into (lane : Lane) (state : LaneState) : Lane :=
  { lane with state, validRun := 0, missRun := 0, holdCount := 0 }

/-- A lane entered OFF: not sending from the next superframe, score and runs 0, counters kept (R51). -/
def Lane.switchedOff (lane : Lane) : Lane := { lane.into .off with score := 0 }

/-- A lane released from QUARANTINED: ALIGNING where SIGNAL is present, DARK where it is absent (R68). -/
def Lane.released (lane : Lane) : Lane := lane.into (if lane.signal then .aligning else .dark)

/-- A framer sends on the lane at the next boundary (R54). -/
def maySend (s : State) (l : Fin 4) : Bool :=
  decide ((s.lanes.get l).state ≠ .off) && decide ((s.lanes.get l).state ≠ .quarantined) &&
    decide (s.link.state ≠ .standby)

/-- The mast end adopts the truck end's count (R53). -/
def adopting (s : State) : Bool :=
  decide (s.role = .mast) && (decide (s.link.state = .standby) || decide (s.link.state = .calling))

/-! ### Quarantine cause sets -/

/-- The four causes of R82. -/
inductive Cause where
  | strike
  | storm
  | driver
  | thermal
deriving DecidableEq, Repr

/-- A cause held or not held. -/
def putCause (c : Cause) (b : Bool) (cs : Causes) : Causes :=
  match c with
  | .strike => { cs with strike := b }
  | .storm => { cs with storm := b }
  | .driver => { cs with driver := b }
  | .thermal => { cs with thermal := b }

/-- The set is empty. -/
def noCauses (cs : Causes) : Bool := !cs.strike && !cs.storm && !cs.driver && !cs.thermal

/-- The protection of a lane. -/
def guardOf (s : State) (l : Fin 4) : LaneGuard := s.prot.guards.get l

/-- Writes the protection of a lane, its cause set apart from which no other block is told of. -/
def putGuard (l : Fin 4) (g : LaneGuard) (s : State) : State :=
  { s with prot := { s.prot with guards := s.prot.guards.set l g } }

/-- What the lane does when its cause set goes from one to another: it enters QUARANTINED from any state except OFF
when the set becomes non-empty, and is released when it becomes empty (R68, R82). -/
def quarantineMove (old new : Causes) (lane : Lane) : Lane :=
  if noCauses old && !noCauses new then (if lane.state = .off then lane else lane.into .quarantined)
  else if !noCauses old && noCauses new then (if lane.state = .quarantined then lane.released else lane)
  else lane

/-- Writes the cause set of a lane and reports its change between empty and non-empty to the lane (R82). -/
def setCauses (l : Fin 4) (new : Causes) (s : State) : State :=
  let old := (guardOf s l).causes
  changeLane l (quarantineMove old new (s.lanes.get l)) (putGuard l { guardOf s l with causes := new } s)

/-- Applies a cause to a lane (R82). -/
def applyCause (c : Cause) (l : Fin 4) (s : State) : State := setCauses l (putCause c true (guardOf s l).causes) s

/-- Removes a cause from a lane (R82). -/
def removeCause (c : Cause) (l : Fin 4) (s : State) : State := setCauses l (putCause c false (guardOf s l).causes) s

/-- An operation on each lane that a test picks, in ascending number. -/
def onLanes (pick : Fin 4 → Bool) (f : Fin 4 → State → State) (s : State) : State :=
  laneNumbers.foldl (fun s l => if pick l then f l s else s) s

/-! ### Storm level and posture -/

/-- The posture after a change of the storm level (R85). -/
def postureAfter (on : Bool) (level : Nat) : Bool := if on then decide (level ≠ 0) else decide (Config.stormOn ≤ level)

/-- The posture turns ON or OFF: STORM is set, and the cause STORM goes to the storm-isolated lanes or leaves every
lane that holds it (R85, R86). -/
def setPosture (on : Bool) (s : State) : State :=
  let s := raise .storm { s with prot := { s.prot with stormOn := on } }
  if on then onLanes (fun l => s.prot.config.isolate.get l) (applyCause .storm) s
  else onLanes (fun _ => true) (removeCause .storm) s

/-- Writes the storm level and judges the posture (R84, R85). -/
def setStormLevel (level : Nat) (s : State) : State :=
  let on := postureAfter s.prot.stormOn level
  let t := { s with prot := { s.prot with stormLevel := level } }
  if on = s.prot.stormOn then t else setPosture on t

/-! ### Copper drivers -/

/-- The five driver states (R88). -/
inductive DriverState where
  | unused
  | idle
  | driving
  | limiting
  | tripped
deriving DecidableEq, Repr

/-- The state of a lane's driver: it follows the lane's kind, its sending and its cause set (R88). -/
def driverState (s : State) (l : Fin 4) : DriverState :=
  let lane := s.lanes.get l
  let g := guardOf s l
  if lane.kind ≠ .copper then .unused
  else if g.causes.driver then .tripped
  else if !lane.sending then .idle
  else if g.overcurrent && g.blanking.isSome then .limiting
  else .driving

/-- The length of a blanking timer in superframes: 4, 8, 16 or 32 (R77). -/
def blankingLength (code : Nat) : Nat := 4 * 2 ^ code

/-- The length of a driver retry timer in superframes (R77). -/
def retryLength (steps : Nat) : Nat := Config.perTenMs * steps

/-! ### Queues and the pool -/

/-- The cells held in all ingress queues of this end: the pool's occupancy (R166). -/
def occupancy (s : State) : Nat := (s.table.slots.map fun x => x.queue.length).sum

/-- The exhaustion mark is cleared when the occupancy has fallen to 12,288 or below (R166). -/
def settlePool (s : State) : State :=
  { s with service := { s.service with
      exhausted := s.service.exhausted && decide (Config.poolRelease < occupancy s) } }

/-- A queue cut from its newest end to a limit, each cell removed counted on dropped (R172). -/
def trimSlot (limit : Nat) (x : Slot) : Slot :=
  if x.queue.length ≤ limit then x
  else
    { x with
      queue := x.queue.take limit
      counters := { x.counters with
        dropped := satAdd Config.counterMax x.counters.dropped (x.queue.length - limit) } }

/-- The cut brings the slot's dropped counter to saturation (R177). -/
def trimSaturates (limit : Nat) (x : Slot) : Bool :=
  satHit Config.counterMax x.counters.dropped (x.queue.length - limit)

/-- Every queue cut to its circuit's limit (R172). -/
def trimQueues (limit : Fin 64 → Nat) (s : State) : State :=
  let t := { s with table := { s.table with slots := s.table.slots.map fun x => trimSlot (limit x.record.number) x } }
  settlePool
    (raiseIf (s.table.slots.any fun x => trimSaturates (limit x.record.number) x) .counterSat t)

/-! ### Link moves -/

/-- The link takes a state; LINK is set at every change (R133). -/
def setLink (new : LinkState) (s : State) : State :=
  raiseIf (decide (new ≠ s.link.state)) .link { s with link := { s.link with state := new } }

/-- The call schedule is stopped, with its timer (R121). -/
def stopSchedule (s : State) : State :=
  { s with link := { s.link with phase := none, attempt := 0, timer := none } }

/-- A phase of the call schedule begins (R121). -/
def startPhase (phase : CallPhase) (attempt length : Nat) (s : State) : State :=
  { s with link := { s.link with phase := some phase, attempt := attempt, timer := some length } }

/-- The first window of a round begins (R121). -/
def startRound (s : State) : State := startPhase .window 1 (Config.perMs * s.params.callWindow) s

/-- What a move to CALLING or STANDBY does to a commit that is not IDLE: an ORDERED one stays, any other is abandoned
(R131). -/
def commitKept : Option CommitJob → Option CommitJob
  | some j =>
    match j.phase with
    | .ordered _ _ => some j
    | _ => none
  | none => none

/-- A commit abandoned with its change set kept (R158): its state becomes IDLE and COMMIT_ABANDONED is set. -/
def abandonCommit (s : State) : State :=
  { raiseIf (s.orders.commit.isSome && (commitKept s.orders.commit).isNone) .commitAbandoned s with
    orders := { s.orders with commit := commitKept s.orders.commit } }

/-- The link controller's orders after a move to CALLING or STANDBY (R130, R131): the stamp in force is 0/0, and the
pending or heard order, the SYNCING decision, the full sync and the mismatch state are gone. -/
def droppedOrders (o : Orders) : Orders :=
  { o with stamp := Stamp.zero, view := none, pending := none, mismatchCount := 0, resync := none, decision := none,
           fullSync := none, heard := none, mismatch := false, ready := none }

/-- The control channel engine after a move to CALLING or STANDBY (R109, R115, R116). The halves of a message already formed
are kept, and are sent where a lane sends in their superframe (R101, R102; assumption log 54). -/
def droppedChannel (c : Channel) : Channel :=
  { c with missCount := 0, silent := false, accepted := false, echo := none, fromTruck := none, fromMast := none }

/-- All that a move of the link to CALLING or to STANDBY drops (R45, R130, R131, R174). -/
def dropAll (s : State) : State :=
  let s := abandonCommit (trimQueues (fun _ => 0) s)
  { s with
    planner := Planner.empty
    stage := StageArea.empty
    chan := droppedChannel s.chan
    link := { s.link with origin := none, holdCount := 0, expiryDue := false }
    orders := droppedOrders s.orders
    service := { s.service with exhausted := false, limits := none } }

/-- The link moves to CALLING: the drops, and the call schedule from its first window (R121, R130). -/
def moveToCalling (s : State) : State := startRound (setLink .calling (dropAll s))

/-- The link moves to STANDBY: the drops, and the call schedule stopped (R130, R132). -/
def moveToStandby (s : State) : State := stopSchedule (setLink .standby (dropAll s))

/-- The link leaves CALLING for SYNCING: the call schedule stops (R122). -/
def moveToSyncing (s : State) : State := stopSchedule (setLink .syncing s)

/-- The link state that a HOLDOVER returns to (R129). -/
def originState : Option Origin → LinkState
  | some .syncing => .syncing
  | _ => .carrying

/-- A message accepted in HOLDOVER returns the link to its origin and discards the holdover count (R129). -/
def returnFromHoldover (s : State) : State :=
  let s := setLink (originState s.link.origin) s
  { s with link := { s.link with origin := none, holdCount := 0, expiryDue := false } }

/-- What the acceptance of a far-end message does to the link (R107, R110, R122, R129). -/
def linkHears (s : State) : State :=
  match s.link.state with
  | .calling => moveToSyncing s
  | .holdover => returnFromHoldover s
  | _ => s

/-- What the take of an order does to the link: SYNCING goes to CARRYING, and the origin of a HOLDOVER becomes CARRYING
(R124, R125, R127). -/
def linkTakes (s : State) : State :=
  match s.link.state with
  | .syncing => setLink .carrying s
  | .holdover => { s with link := { s.link with origin := some .carrying } }
  | _ => s

/-- The holdover limit in control cycles (R128). -/
def holdoverLimit (p : Params) : Nat := p.holdoverBase * 2 ^ p.holdoverScale

end Sys2Proof.Machine
end

