-- ==== Sys2Proof/Machine/OrderOps.lean ====
section
/-! DEFINITION. Orders, epochs and commits (chapter 7): the agreed view, issuing and taking an order at the truck end,
hearing, planning and taking one at the mast end, the commit procedure, transfers and full sync. -/

namespace Sys2Proof.Machine

open Sys2Proof

/-! ### Views (R137, R138) -/

/-- The receive report of a lane at this end (R70, R72). -/
def laneReport (s : State) (l : Fin 4) : LaneReport :=
  let lane := s.lanes.get l
  { kind := lane.kind, state := lane.state, grade := BitVec.ofNat 8 (effectiveGrade lane),
    score16 := BitVec.ofNat 8 (lane.score / 16) }

/-- The grade that a view holds for a reported one (R28, R137): for a byte above 3 the manual states none (assumption
log 23). -/
def viewGrade (reported : Byte) : Fin 4 := (laneOf reported.toNat).getD (Config.gradeAbove reported)

/-- One direction of the agreed view: suspect and grade are no and 0 where it is not usable (R137). -/
def agreedDir (state : LaneState) (grade : Byte) (senderCauses : Causes) (kindsEqual : Bool) : DirView :=
  if usableState state && noCauses senderCauses && kindsEqual then
    ⟨true, decide (state = .suspect), viewGrade grade⟩
  else ⟨false, false, 0⟩

/-- The agreed view of one lane, from the truck end's own receive view and cause set and the mast reply (R137). -/
def agreedLane (s : State) (m : Reply) (l : Fin 4) : LaneView :=
  let own := laneReport s l
  let far := m.lanes.get l
  let same := decide (far.kind = own.kind)
  { kind := own.kind,
    down := agreedDir own.state own.grade (m.causes.get l) same,
    up := agreedDir far.state far.grade (guardOf s l).causes same }

/-- The agreed view; none while no mast reply is held (R137). -/
def agreedView (s : State) : Option View :=
  match s.chan.fromMast with
  | some (m, _) => some (PerLane.ofFn (agreedLane s m))
  | none => none

/-! ### Epochs (R141) -/

/-- The epoch is reached or passed: it is not ahead of the count (R141). -/
def epochBehind (epoch now : Count) : Bool :=
  decide ((epoch - now).toNat = 0) || decide (2 ^ 31 ≤ (epoch - now).toNat)

/-- The epoch of a commit's order and whether it was moved, for a requested epoch of the trigger (R156). -/
def commitEpoch (now : Count) (lead : Nat) (requested : Count) : Count × Bool :=
  let usual := now + BitVec.ofNat 32 lead
  if requested = 0 then (usual, false)
  else if lead ≤ (requested - now).toNat ∧ (requested - now).toNat < 2 ^ 31 then (requested, false)
  else (usual, true)

/-! ### Transfers (R152, R153) -/

/-- A transfer that begins: unopened (R152). -/
def Transfer.fresh : Transfer := ⟨false, false, false⟩

/-- A steering message is formed while the transfer runs. -/
def Transfer.sending (t : Transfer) : Transfer := { t with sentBefore := t.sentNow, sentNow := true }

/-- An accepted reply opens the transfer when it answers a message formed after the transfer began and reports no
stage target held (R152). -/
def Transfer.hears (t : Transfer) (m : Reply) : Transfer :=
  { t with opened := t.opened || (t.sentBefore && m.stageTarget.isNone) }

/-- The reply reports this stage, with so many items held. -/
def reportsStage (m : Reply) (target : Word16) (mode : StageMode) : Bool :=
  decide (m.stageTarget = some target) && decide (m.stageMode = mode)

/-- The reply reports the transfer's stage complete: target, mode, and a held count equal to the total; the transfer
must have been opened (R154, R159; assumption log 9). -/
def stageReported (m : Reply) (t : Transfer) (target : Word16) (mode : StageMode) (total : Nat) : Bool :=
  t.opened && reportsStage m target mode && decide (m.held = total)

/-- The index of the item that a steering message carries (R153). With no mast reply held, which the table of R153 leaves
to its last row, it is 0 (assumption log 48). -/
def itemIndex (latest : Option Reply) (target : Word16) (mode : StageMode) (total : Nat) : Nat :=
  match latest with
  | some m =>
    if reportsStage m target mode && decide (m.held < total) then m.held
    else if reportsStage m target mode && decide (m.held = total) then total - 1
    else 0
  | none => 0

/-- The message accepted latest from the mast end. -/
def latestReply (s : State) : Option Reply := s.chan.fromMast.map (·.1)

/-- The item of a list at its index, as a transfer item. -/
def transferItem (s : State) (target : Word16) (mode : StageMode) (edits : List Edit) : TransferItem :=
  let i := itemIndex (latestReply s) target mode edits.length
  ⟨target, mode, i, edits.length, edits[i]?⟩

/-- A transfer is paused: the link is HOLDOVER or either end is in DEAD_BAND (R153). -/
def transferPaused (s : State) : Bool := decide (s.link.state = .holdover) || frozen s

/-- The edits of the transfer that runs, with its target and mode: a full sync's records as ADDs, or a commit's change
set (R151, R159). Where both run, it is the full sync's (assumption log 55). -/
def runningTransfer (s : State) : Option (Transfer × Word16 × StageMode × List Edit) :=
  match s.orders.fullSync with
  | some f => some (f.transfer, f.target, .full, f.items.map .add)
  | none =>
    match s.orders.commit with
    | some j => some (j.transfer, j.target, .change, s.changes)
    | none => none

/-- The item that a steering message formed now carries: none while no transfer is opened, or while it is paused
(R152, R153). -/
def steeringItem (s : State) : Option TransferItem :=
  match runningTransfer s with
  | some (t, target, mode, edits) =>
    if t.opened && !transferPaused s then some (transferItem s target mode edits) else none
  | none => none

/-- The transfer-paused mark: yes while an opened transfer is paused (R106, R153). -/
def pausedMark (s : State) : Bool :=
  match runningTransfer s with
  | some (t, _) => t.opened && transferPaused s
  | none => false

/-- Changes the transfers of the truck end. -/
def mapTransfers (f : Transfer → Transfer) (o : Orders) : Orders :=
  { o with
    fullSync := o.fullSync.map fun x => { x with transfer := f x.transfer }
    commit := o.commit.map fun x => { x with transfer := f x.transfer } }

/-! ### Full sync (R159) -/

/-- A full sync of the committed table starts; a resync by full sync is no longer waiting (R124, R159). -/
def startFullSync (s : State) : State :=
  { s with orders := { s.orders with
      fullSync := some ⟨s.table.generation, recordsOf s.table.slots, Transfer.fresh⟩
      resync := if s.orders.resync = some .fullSync then none else s.orders.resync } }

/-- The commit procedure is ORDERED. -/
def commitOrdered (s : State) : Bool :=
  match s.orders.commit with
  | some j =>
    match j.phase with
    | .ordered _ _ => true
    | _ => false
  | none => false

/-- A resync full sync starts: one is marked, no order is pending and the commit procedure is not ORDERED (R159). -/
def fullSyncDue (s : State) : Bool :=
  decide (s.role = .truck) && decide (s.orders.resync = some .fullSync) && s.orders.pending.isNone &&
    s.orders.fullSync.isNone && !commitOrdered s

/-! ### Issuing an order (R139 to R142, R156) -/

/-- Issues an order: it becomes pending, takes the next order number, and its planning run starts (R139, R142). -/
def issueOrder (kind : OrderKind) (generation : Word16) (epoch : Count) (view : View) (table : List Record)
    (s : State) : State :=
  let stamp : Stamp := ⟨generation, s.orders.nextNumber⟩
  startRun stamp view table
    { s with orders := { s.orders with
        pending := some ⟨epoch, stamp, view, kind⟩, latest := some stamp,
        nextNumber := successor s.orders.nextNumber } }

/-- The epoch of an order issued now, without a TRIGGER (R141). -/
def usualEpoch (s : State) : Count := s.count + BitVec.ofNat 32 s.params.lead

/-- Issues a full-sync order (R139, R159). -/
def issueFullSync (f : FullSync) (view : View) (s : State) : State :=
  issueOrder .fullSync f.target (usualEpoch s) view (recordsOf s.table.slots) s

/-- Issues a commit's order with its epoch; the commit enters ORDERED (R156). -/
def issueCommit (j : CommitJob) (requested : Count) (view : View) (s : State) : State :=
  let e := commitEpoch s.count s.params.lead requested
  let s := issueOrder .commit (successor s.table.generation) e.1 view
    (projected (recordsOf s.table.slots) s.changes) s
  { s with orders := { s.orders with commit := some { j with phase := .ordered e.1 e.2 } } }

/-- Issues a plain order (R139). -/
def issuePlain (view : View) (s : State) : State :=
  issueOrder .plain s.table.generation (usualEpoch s) view (recordsOf s.table.slots) s

/-- The requested epoch of a commit that is ready for its order: 0 for one waiting to order, the TRIGGER's for a
triggered one (R140, R156). -/
def commitReady (j : CommitJob) : Option Count :=
  match j.phase with
  | .transferring true => some 0
  | .armed (some g) => some g
  | _ => none

/-- A commit's order may be issued at the latest reply: its stage is reported complete, the generations are equal and
neither end is in DEAD_BAND (R140). -/
def commitAllowed (j : CommitJob) (m : Reply) (s : State) : Bool :=
  stageReported m j.transfer j.target .change j.total && decide (m.generation = s.table.generation) && !frozen s

/-- A plain order is needed: the first order of SYNCING, and in CARRYING a resync by fresh order or a changed view
(R138, R140). -/
def plainNeeded (view : View) (s : State) : Bool :=
  match s.link.state with
  | .syncing => decide (s.orders.decision = some .freshOrder)
  | .carrying => decide (s.orders.resync = some .freshOrder) || decide (s.orders.view ≠ some view)
  | _ => false

/-- The order that the judgement of R140 issues, by the first row that applies. -/
def issueByNeed (m : Reply) (view : View) (s : State) : State :=
  match s.orders.fullSync with
  | some f =>
    if stageReported m f.transfer f.target .full f.items.length && !frozen s then issueFullSync f view s else s
  | none =>
    match s.orders.commit.bind fun j => (commitReady j).map fun g => (j, g) with
    | some (j, g) =>
      if commitAllowed j m s then issueCommit j g view s
      else if plainNeeded view s then issuePlain view s else s
    | none => if plainNeeded view s then issuePlain view s else s

/-- The judgement of R140: at the truck end, in SYNCING or CARRYING, with no order pending. -/
def judgeIssue (s : State) : State :=
  if s.role = .truck ∧ (s.link.state = .syncing ∨ s.link.state = .carrying) ∧ s.orders.pending = none then
    match latestReply s, agreedView s with
    | some m, some view => issueByNeed m view s
    | _, _ => s
  else s

/-! ### Applying a change (R20 to R22, R173) -/

/-- The slots and generation after an application; the pool and the saturation flag follow (R23, R173, R177). -/
def putTable (slots : List Slot) (generation : Word16) (saturated : Bool) (s : State) : State :=
  settlePool (raiseIf saturated .counterSat { s with table := ⟨slots, generation⟩ })

/-- The change set is applied to the committed table and emptied (R20). -/
def applyChangeSet (s : State) : State :=
  let t := putTable (applyEdits s.role s.table.slots s.changes) (successor s.table.generation)
    (editsSaturate s.role s.table.slots s.changes) s
  { t with changes := [] }

/-- The change set is applied and the commit procedure completes: IDLE, COMMIT_DONE and the commit-done record
(R157). -/
def completeCommit (j : CommitJob) (epoch : Count) (moved : Bool) (s : State) : State :=
  let s := raise .commitDone (applyChangeSet s)
  { s with orders := { s.orders with commit := none, done := some ⟨s.table.generation, epoch, moved, j.code⟩ } }

/-- Completes the commit when it is ORDERED. -/
def completeOrdered (s : State) : State :=
  match s.orders.commit with
  | some j =>
    match j.phase with
    | .ordered epoch moved => completeCommit j epoch moved s
    | _ => s
  | none => s

/-- The stage is applied at the mast end: CHANGE items to the table (R21), a FULL list in place of it (R22). A stage area
that was cleared or filled anew since the order was planned is applied as it then stands, and none where no target is held
(assumption log 41). -/
def applyStage (source : Option Source) (s : State) : State :=
  match source, s.stage.target with
  | some .changeStage, some target =>
    { putTable (applyEdits .mast s.table.slots s.stage.items) target
        (editsSaturate .mast s.table.slots s.stage.items) s with stage := StageArea.empty }
  | some .fullStage, some target =>
    { putTable (adoptEdits s.stage.items) target false s with stage := StageArea.empty }
  | _, _ => s

/-! ### Taking an order at the truck end (R143, R144) -/

/-- A served status is worse than the one it is compared with: that of the circuit in the plan in force before, or
FULL_DUAL where it had no entry (R144). -/
def ranksWorse (before : Option Plan) (e : Entry) : Bool :=
  let old := match before.bind fun p => p.entry e.number with
    | some (_, o) => o.served
    | none => .fullDual
  decide (servedRank old < servedRank e.served)

/-- The take ranks some circuit of the plan taken worse than before (R144). -/
def reducesService (before after : Option Plan) : Bool :=
  match after with
  | some p => p.entries.any (ranksWorse before)
  | none => false

/-- The stamp and view of an order are put in force, with its plan (R143, R147). -/
def putInForce (stamp : Stamp) (view : View) (s : State) : State :=
  { s with
    orders := { s.orders with stamp := stamp, view := some view }
    planner := takePlan stamp s.planner }

/-- The needs that a taken order ends: its full sync, a resync by fresh order, and the SYNCING decision (R143). -/
def endNeeds (kind : OrderKind) (o : Orders) : Orders :=
  { o with
    pending := none
    fullSync := if kind = .fullSync then none else o.fullSync
    resync := if o.resync = some .freshOrder then none else o.resync
    decision := none }

/-- The truck end takes an order, by the stages of R143. -/
def takeAtTruck (o : Order) (s : State) : State :=
  let before := planInForce s
  let s := if o.kind = .commit then completeOrdered s else s
  let s := putInForce o.stamp o.view s
  let s := { s with orders := endNeeds o.kind s.orders }
  let s := raiseIf (reducesService before (planInForce s)) .serviceReduced (raise .orderTaken s)
  linkTakes s

/-- At the truck end the count has reached the epoch of the pending order. -/
def takeDueTruck (s : State) : Option Order :=
  if s.role = .truck then s.orders.pending.filter fun o => decide (o.epoch = s.count) else none

/-- The truck end takes its pending order when its epoch is reached (R143). -/
def judgeTakeTruck (s : State) : State :=
  match takeDueTruck s with
  | some o => takeAtTruck o s
  | none => s

/-- An ORDERED commit whose order was withdrawn is completed when the count reaches its epoch (R131). -/
def judgeCompletion (s : State) : State :=
  match s.orders.commit, s.orders.pending with
  | some j, none =>
    match j.phase with
    | .ordered epoch moved => if epoch = s.count ∧ s.role = .truck then completeCommit j epoch moved s else s
    | _ => s
  | _, _ => s

/-! ### Hearing and taking an order at the mast end (R145 to R149) -/

/-- The planning source of an order, the first that applies (R146). -/
def planSource (o : OrderField) (s : State) : Option Source :=
  let g := o.stamp.generation
  if o.commitMark then
    if s.stage.complete ∧ s.stage.mode = .change ∧ s.stage.target = some g ∧ g = successor s.table.generation then
      some .changeStage
    else if s.stage.complete ∧ s.stage.mode = .full ∧ s.stage.target = some g then some .fullStage
    else if g = s.table.generation then some .committed
    else none
  else if g = s.table.generation then some .committed
  else none

/-- The planned table of a source at the mast end (R41). -/
def sourceTable (source : Source) (s : State) : List Record :=
  match source with
  | .committed => recordsOf s.table.slots
  | .changeStage => projected (recordsOf s.table.slots) s.stage.items
  | .fullStage => projected [] s.stage.items

/-- An order is judged for plannability: with a source its planning run starts (R146). -/
def judgePlannable (o : OrderField) (s : State) : State :=
  match planSource o s with
  | some source =>
    startRun o.stamp o.view (sourceTable source s)
      { s with orders := { s.orders with heard := some ⟨o, some source⟩ } }
  | none => { s with orders := { s.orders with heard := some ⟨o, none⟩ } }

/-- The mast end takes its heard order, by the stages of R147. -/
def takeAtMast (h : HeardOrder) (s : State) : State :=
  let s := applyStage h.source s
  let s := putInForce h.order.stamp h.order.view s
  linkTakes { s with orders := { s.orders with heard := none, mismatch := false } }

/-- At the mast end the count has reached the epoch of the heard order. -/
def takeDueMast (s : State) : Option HeardOrder :=
  if s.role = .mast then s.orders.heard.filter fun h => decide (h.order.epoch = s.count) else none

/-- The mast end takes its heard order when its epoch is reached (R147). -/
def judgeTakeMast (s : State) : State :=
  match takeDueMast s with
  | some h => takeAtMast h s
  | none => s

/-- The planning run of a replaced heard order is abandoned (R145). -/
def abandonRunOf (h : Option HeardOrder) (s : State) : State :=
  match h, s.planner.run with
  | some x, some r =>
    if r.stamp = x.order.stamp then { s with planner := { s.planner with run := none } } else s
  | _, _ => s

/-- A new heard order: it replaces any before it, is judged for plannability, and is taken at once when its epoch is
reached or passed (R145, R147). -/
def hearNew (o : OrderField) (s : State) : State :=
  let s := abandonRunOf s.orders.heard (judgePlannable o s)
  if epochBehind o.epoch s.count then
    match s.orders.heard with
    | some h => takeAtMast h s
    | none => s
  else s

/-- A heard order without a source is judged for plannability again (R145, R146). -/
def rejudgeHeard (s : State) : State :=
  match s.orders.heard with
  | some h => if h.source = none then judgePlannable h.order s else s
  | none => s

/-- Stage 4 of R107: the pending order of an accepted steering message is heard, or without one the stamps in force
are compared (R145, R149). -/
def hearOrders (m : Steering) (s : State) : State :=
  match m.order with
  | some o =>
    if o.stamp = s.orders.stamp then rejudgeHeard s
    else if (s.orders.heard.map fun h => h.order.stamp) = some o.stamp then rejudgeHeard s
    else hearNew o s
  | none =>
    let s := rejudgeHeard s
    if m.stamp ≠ s.orders.stamp ∧ s.orders.mismatch = false then
      raise .planMismatch { s with orders := { s.orders with mismatch := true } }
    else s

/-! ### What the truck end reads from a mast reply (R124, R150, R152, R154) -/

/-- The SYNCING decision, at the first reply in SYNCING at which no order is pending, no full sync is running and the
commit procedure is not ORDERED (R124). -/
def decideSyncing (m : Reply) (s : State) : State :=
  if s.link.state = .syncing ∧ s.orders.decision = none ∧ s.orders.pending = none ∧ s.orders.fullSync = none ∧
      commitOrdered s = false then
    if m.generation = s.table.generation then
      { s with orders := { s.orders with decision := some .freshOrder } }
    else startFullSync { s with orders := { s.orders with decision := some .fullSync } }
  else s

/-- The phase of a commit after a reply that does or does not report its stage complete (R154). -/
def phaseAfter (complete : Bool) (code : Nat) : CommitPhase → CommitPhase
  | .transferring _ =>
    if complete then (if code = 0 then .transferring true else .armed none) else .transferring false
  | .armed none => if complete then .armed none else .transferring false
  | p => p

/-- The commit after an accepted reply (R152, R154). -/
def commitHears (m : Reply) (j : CommitJob) : CommitJob :=
  let t := j.transfer.hears m
  { j with transfer := t, phase := phaseAfter (stageReported m t j.target .change j.total) j.code j.phase }

/-- Transfers open, and a commit's stage is judged for completeness (R152, R154). -/
def transfersHear (m : Reply) (o : Orders) : Orders :=
  { o with
    fullSync := o.fullSync.map fun f => { f with transfer := f.transfer.hears m }
    commit := o.commit.map (commitHears m) }

/-- A resync is marked at a mismatch count of 2: by full sync when the reply's generation differs, which abandons a
TRANSFERRING or ARMED commit, and by fresh order otherwise (R150, R158). -/
def markResync (m : Reply) (s : State) : State :=
  let s := raise .planMismatch s
  if m.generation = s.table.generation then
    { s with orders := { s.orders with mismatchCount := 0, resync := some .freshOrder } }
  else
    let s := abandonCommit s
    { s with orders := { s.orders with mismatchCount := 0, resync := some .fullSync } }

/-- A mast reply judged for mismatch, in CARRYING with no order pending, no full sync running and the commit procedure
not ORDERED (R150). -/
def judgeMismatch (m : Reply) (s : State) : State :=
  if s.link.state = .carrying ∧ s.orders.pending = none ∧ s.orders.fullSync = none ∧ commitOrdered s = false then
    if m.stamp ≠ s.orders.stamp ∨ m.generation ≠ s.table.generation then
      if 1 ≤ s.orders.mismatchCount then markResync m s
      else { s with orders := { s.orders with mismatchCount := s.orders.mismatchCount + 1 } }
    else { s with orders := { s.orders with mismatchCount := 0 } }
  else s

/-- Stage 3 of R110. -/
def readReply (m : Reply) (s : State) : State :=
  let s := decideSyncing m s
  let s := { s with orders := transfersHear m s.orders }
  judgeMismatch m s

end Sys2Proof.Machine
end

