-- ==== Sys2Proof/Machine/LaneOps.lean ====
section
/-! DEFINITION. One evaluation of a lane (chapter 3): the header and blocks are judged (R57, R58), the arrivals are handed
on (R59), the counters advance (R60), the score is updated (R63) and the state is evaluated (R66, R67). -/

namespace Sys2Proof.Machine

open Sys2Proof

/-! ### Judging a superframe (R57, R58) -/

/-- What a lane finds in one superframe: the count and stamp of a valid header, whether its stamp is the one in force,
the number of damaged blocks, and the payload positions of its blocks. -/
structure Judgement where
  header : Option (Count × Stamp)
  stampMatch : Bool
  damaged : Nat
  payload : List (Option PayloadSlot)
  control : List Byte
deriving DecidableEq, Repr

/-- Nothing valid arrived. -/
def Judgement.nothing : Judgement := ⟨none, false, 0, [], []⟩

/-- The superframe had a valid header. -/
def Judgement.valid (j : Judgement) : Bool := j.header.isSome

/-- The count of a header is accepted: it is compared only at the mast end outside adoption (R53, R57). -/
def countAccepted (s : State) (count : Count) : Bool :=
  decide (s.role = .truck) || adopting s || decide (count = s.count)

/-- The blocks of a payload region from block `k` on, with how many slots can be received: the damaged blocks, and the
positions handed on (R58, R59). -/
def judgeBlocks (receivable : Nat) : Nat → List (List Byte) → Nat × List (Option PayloadSlot)
  | _, [] => (0, [])
  | k, b :: bs =>
    let rest := judgeBlocks receivable (k + 1) bs
    if receivable < Config.blockSlots * (k + 1) then (rest.1, List.replicate Config.blockSlots none ++ rest.2)
    else if blockGood b then (rest.1, slotsOf Config.blockSlots b ++ rest.2)
    else (rest.1 + 1, List.replicate Config.blockSlots none ++ rest.2)

/-- The judgement of what arrived on a lane (R57, R58). -/
def judgeArrival (s : State) (l : Fin 4) (a : Arrival) : Judgement :=
  match headerOf l a.bytes with
  | none => .nothing
  | some (count, stamp) =>
    if Config.delayCompensation < a.lag ∨ countAccepted s count = false then .nothing
    else if stamp = s.orders.stamp then
      match s.orders.view with
      | some v =>
        let lane := s.lanes.get l
        let blocks := judgeBlocks (capacityOf lane.kind (effectiveGrade lane)) 0
          (frameBlocks (layoutCapacity v (receivedDirection s.role) l) a.bytes)
        ⟨some (count, stamp), true, blocks.1, blocks.2, controlOf a.bytes⟩
      | none => ⟨some (count, stamp), true, 0, [], controlOf a.bytes⟩
    else ⟨some (count, stamp), false, 0, [], controlOf a.bytes⟩

/-- The judgement of a lane in one superframe: an OFF or QUARANTINED lane judges nothing (R57), and every superframe of a
DARK lane is one without a valid header (R60, R63). -/
def judgeLane (s : State) (l : Fin 4) (input : LaneInput) : Judgement :=
  if (s.lanes.get l).state = .off ∨ (s.lanes.get l).state = .quarantined ∨ (s.lanes.get l).state = .dark then .nothing
  else
    match input.arrival with
    | some a => judgeArrival s l a
    | none => .nothing

/-- What the lane hands on (R59): the control slot of an aligned lane with a valid header, and the payload where the
stamp also matches and a plan is in force. The hand-over comes before the state's evaluation (R66), and `gained` says
whether that evaluation aligned the lane; the stamp in force of the judgement is kept with it (R169). -/
def handOver (s : State) (l : Fin 4) (gained : Bool) (j : Judgement) : HandOver :=
  if alignedState (s.lanes.get l).state then
    { control := j.header.map fun h => (h.1, j.control),
      payload := if j.valid && j.stampMatch && (planInForce s).isSome then j.payload else [],
      gained := gained
      stamp := s.orders.stamp }
  else ⟨none, [], gained, s.orders.stamp⟩

/-! ### Counters and score (R60, R63) -/

/-- The four counters after a superframe (R60). -/
def LaneCounters.after (c : LaneCounters) (j : Judgement) : LaneCounters where
  headersLost := satAdd Config.counterMax c.headersLost (if j.valid then 0 else 1)
  receivedValid := satAdd Config.counterMax c.receivedValid (if j.valid then 1 else 0)
  stampMismatch := satAdd Config.counterMax c.stampMismatch (if j.valid && !j.stampMatch then 1 else 0)
  damagedBlocks := satAdd Config.counterMax c.damagedBlocks j.damaged

/-- Some counter of the lane comes to saturation in the superframe (R60, R177). -/
def LaneCounters.saturate (c : LaneCounters) (j : Judgement) : Bool :=
  satHit Config.counterMax c.headersLost (if j.valid then 0 else 1) ||
    satHit Config.counterMax c.receivedValid (if j.valid then 1 else 0) ||
    satHit Config.counterMax c.stampMismatch (if j.valid && !j.stampMatch then 1 else 0) ||
    satHit Config.counterMax c.damagedBlocks j.damaged

/-- The decay of a score (R63). -/
def scoreDecay (score : Nat) : Nat := if score = 0 then 0 else score / 256 + 1

/-- The score after a superframe (R63). -/
def scoreAfter (score damaged : Nat) (valid : Bool) : Nat :=
  min Config.scoreMax (score - scoreDecay score + (64 * damaged + if valid then 0 else 256))

/-! ### The lane state (R61, R62, R66, R67) -/

/-- The far end's storm posture in the latest far-end report; OFF while none is held (R67, R116). -/
def farStormOn (s : State) : Bool :=
  match s.role with
  | .mast => (s.chan.fromTruck.map fun m => m.1.stormOn).getD false
  | .truck => (s.chan.fromMast.map fun m => m.1.stormOn).getD false

/-- The hold target: four times readmit_hold while either end's posture is ON (R67). -/
def holdTarget (s : State) : Nat :=
  if s.prot.stormOn || farStormOn s then 4 * s.params.readmitHold else s.params.readmitHold

/-- An ALIGNING lane with SIGNAL present, after its score's update (R61). -/
def alignStep (lane : Lane) (valid : Bool) : Lane :=
  let run := if valid then lane.validRun + 1 else 0
  if Config.alignRun ≤ run then
    lane.into (if lane.score ≤ Config.readmitLevel then .admitting else .recovering)
  else { lane with validRun := run }

/-- An ADMITTING lane, after its score's update (R67). -/
def admitStep (lane : Lane) (clean : Bool) : Lane :=
  if Config.readmitLevel < lane.score then lane.into .recovering
  else if !clean then { lane with holdCount := 0 }
  else if lane.holdTarget ≤ lane.holdCount + 1 then lane.into .inService
  else { lane with holdCount := lane.holdCount + 1 }

/-- An aligned lane that keeps its alignment, after its score's update (R66). -/
def scoreStep (lane : Lane) (clean : Bool) : Lane :=
  match lane.state with
  | .inService =>
    if Config.failOn ≤ lane.score then lane.into .recovering
    else if Config.suspectOn ≤ lane.score then { lane with state := .suspect } else lane
  | .suspect =>
    if Config.failOn ≤ lane.score then lane.into .recovering
    else if lane.score ≤ Config.suspectOff then { lane with state := .inService } else lane
  | .recovering => if lane.score ≤ Config.readmitLevel then { lane with state := .admitting, holdCount := 0 } else lane
  | .admitting => admitStep lane clean
  | _ => lane

/-- An aligned lane: the loss of alignment is tested first (R62, R66). The miss run is carried through a change of state
by score. -/
def alignedStep (lane : Lane) (valid clean : Bool) : Lane :=
  let run := if valid then 0 else lane.missRun + 1
  if Config.missRunLimit ≤ run then lane.into (if lane.signal then .aligning else .dark)
  else { scoreStep lane clean with missRun := run }

/-- The state evaluation of a lane whose score has been updated (R66). -/
def stateStep (lane : Lane) (valid clean : Bool) : Lane :=
  match lane.state with
  | .off => lane
  | .quarantined => lane
  | .dark => if lane.signal then lane.into .aligning else lane
  | .aligning => if lane.signal then alignStep lane valid else lane.into .dark
  | _ => alignedStep lane valid clean

/-- One evaluation of a lane that is not OFF, with SIGNAL as sampled and the hold target as formed in it (R66). -/
def Lane.evaluate (lane : Lane) (signal : Bool) (target : Nat) (j : Judgement) : Lane :=
  stateStep
    { lane with signal := signal, holdTarget := target, score := scoreAfter lane.score j.damaged j.valid,
                counters := lane.counters.after j }
    j.valid (j.valid && decide (j.damaged = 0))

/-! ### The evaluation in the part (R53, R66) -/

/-- The lane became aligned in its evaluation of this superframe. -/
def gainedNow (s : State) (l : Fin 4) : Bool := ((s.handed.get l).map HandOver.gained).getD false

/-- Another lane than `l` is in an aligned state, or became aligned in this superframe with a lower number; a higher lane
that became aligned in this superframe yields to `l` (R53). A lane that loses alignment in this superframe counts by its state
at this evaluation, so by the order of the evaluations (assumption log 51). -/
def otherAligned (s : State) (l : Fin 4) : Bool :=
  laneNumbers.any fun k =>
    decide (k ≠ l) && alignedState (s.lanes.get k).state && !(decide (l < k) && gainedNow s k)

/-- The count that an alignment completed now gives an adopting mast end with no other lane aligned (R53). -/
def adoptedCount (s : State) (l : Fin 4) (new : Lane) (j : Judgement) : Option Count :=
  if adopting s ∧ (s.lanes.get l).state = .aligning ∧ alignedState new.state = true ∧ otherAligned s l = false then
    j.header.map (·.1)
  else none

/-- Keeps what a lane handed on for the rest of the superframe. -/
def keepHandOver (l : Fin 4) (h : HandOver) (s : State) : State := { s with handed := s.handed.set l (some h) }

/-- One evaluation of a lane in the superframe in progress. An OFF lane takes no part in it (R51, R66). -/
def evaluateLane (l : Fin 4) (input : LaneInput) (s : State) : State :=
  let lane := s.lanes.get l
  let j := judgeLane s l input
  if lane.state = .off then
    keepHandOver l ⟨none, [], false, s.orders.stamp⟩ { s with lanes := s.lanes.set l { lane with signal := input.signal } }
  else
    let new := lane.evaluate input.signal (holdTarget s) j
    let t := raiseIf (lane.counters.saturate j) .counterSat (changeLane l new s)
    keepHandOver l (handOver s l (!alignedState lane.state && alignedState new.state) j) { t with count := (adoptedCount s l new j).getD s.count }

/-- The evaluation of a lane, unless the lane has made it in this superframe. -/
def evaluateOnce (l : Fin 4) (input : LaneInput) (s : State) : State :=
  if (s.handed.get l).isNone then evaluateLane l input s else s

/-- The evaluation of a lane where it is one that a test on the lane before and after it picks; else nothing has
happened. An order whose epoch is reached is taken before it, since the superframes received from the epoch on are judged
by the new stamp (R143, R147). -/
def evaluateWhen (pick : Lane → Lane → Bool) (l : Fin 4) (input : LaneInput) (s : State) : State :=
  let u := judgeTakeMast (judgeTakeTruck s)
  let t := evaluateOnce l input u
  if (u.handed.get l).isNone && pick (u.lanes.get l) (t.lanes.get l) then t else s

end Sys2Proof.Machine
end

