-- ==== Sys2Proof/Machine/CellOps.lean ====
section
/-! DEFINITION. Cells (chapter 8): arrival, taking cells for sending, what each framer sends, delivery with the merging of
dual circuits, and the grade outputs. -/

namespace Sys2Proof.Machine

open Sys2Proof

/-- Writes the slot of a LIVE circuit. -/
def writeSlot (x : Slot) (s : State) : State :=
  { s with table := { s.table with slots := putSlot x s.table.slots } }

/-- Advances one slot's counters and sets COUNTER_SAT when one of them comes to saturation (R177). -/
def writeCounted (x : Slot) (saturated : Bool) (s : State) : State := raiseIf saturated .counterSat (writeSlot x s)

/-! ### Arrival (R161 to R166) -/

/-- A cell is dropped: its circuit's dropped counter advances by 1 (R165). -/
def dropCell (x : Slot) (s : State) : State :=
  writeCounted
    { x with counters := { x.counters with dropped := satAdd Config.counterMax x.counters.dropped 1 } }
    (satHit Config.counterMax x.counters.dropped 1) s

/-- The first drop of an exhaustion episode sets POOL_FULL and the mark (R166). -/
def exhaustPool (s : State) : State :=
  let t := raiseIf (!s.service.exhausted) .poolFull s
  { t with service := { t.service with exhausted := true } }

/-- A stray cell is discarded and counted (R162). -/
def strayCell (s : State) : State :=
  raiseIf (satHit Config.counterMax s.service.stray 1) .counterSat
    { s with service := { s.service with stray := satAdd Config.counterMax s.service.stray 1 } }

/-- A cell for a bound circuit, by the three tests of R165. -/
def judgeCell (x : Slot) (cell : Cell) (s : State) : State :=
  if planInForce s = none then dropCell x s
  else if queueLimit s.service.limits x.record.number ≤ x.queue.length then dropCell x s
  else if Config.poolSize ≤ occupancy s then exhaustPool (dropCell x s)
  else writeSlot { x with queue := x.queue ++ [cell] } s

/-- A cell arrives at a transmit side (R161). -/
def arriveCell (port : Fin 32) (cell : Cell) (s : State) : State :=
  match transmitSlot s.role s.table.slots port with
  | some x => judgeCell x cell s
  | none => strayCell s

/-! ### Sending (R167, R168) -/

/-- A run of slots filled for one superframe: its lane, first slot and length, and the cells from its position 0 on. -/
structure FilledRun where
  lane : Fin 4
  first : Nat
  length : Nat
  cells : List Cell
deriving DecidableEq, Repr

/-- The runs of an entry whose lane sends in this superframe (R167). -/
def sendingRuns (s : State) (e : Entry) : List SlotRun := e.runs.filter fun r => maySend s r.lane

/-- A slot from which `slots` cells are taken, or all it holds when it holds fewer (R167). -/
def takeCells (slots : Nat) (x : Slot) : Slot :=
  let m := min slots x.queue.length
  { x with
    queue := x.queue.drop m
    counters := { x.counters with
      sent := satAdd Config.counterMax x.counters.sent m
      fill := satAdd Config.counterMax x.counters.fill (slots - m) } }

/-- The taking of cells brings a counter to saturation. -/
def takeSaturates (slots : Nat) (x : Slot) : Bool :=
  let m := min slots x.queue.length
  satHit Config.counterMax x.counters.sent m || satHit Config.counterMax x.counters.fill (slots - m)

/-- The sending of one entry of the plan in force: its filled runs, and the state with the cells taken (R167). -/
def sendEntry (e : Entry) (s : State) : List FilledRun × State :=
  let runs := sendingRuns s e
  if runs = [] then ([], s)
  else
    match slotAt s.table.slots e.number with
    | none => ([], s)
    | some x =>
      (runs.map fun r => ⟨r.lane, r.first, e.slots, x.queue.take e.slots⟩,
       writeCounted (takeCells e.slots x) (takeSaturates e.slots x) s)

/-- The sending of entries in turn. -/
def sendEntries : List Entry → State → List FilledRun × State
  | [], s => ([], s)
  | e :: es, s =>
    let (runs, t) := sendEntry e s
    let (more, u) := sendEntries es t
    (runs ++ more, u)

/-- The cells taken for a superframe, and the runs they fill: none while no plan is in force or in BLANK (R168). -/
def takeForSending (s : State) : List FilledRun × State :=
  match planInForce s with
  | some p => if inBlank s then ([], s) else sendEntries (p.direction (sentDirection s.role)).entries s
  | none => ([], s)

/-- The payload slot at a position of a lane, from the runs filled (R55, R167). -/
def payloadSlot (runs : List FilledRun) (l : Fin 4) (i : Nat) : PayloadSlot :=
  match runs.find? fun r => decide (r.lane = l) && decide (r.first ≤ i) && decide (i < r.first + r.length) with
  | some r =>
    match r.cells[i - r.first]? with
    | some cell => .data cell
    | none => .fill
  | none => .fill

/-- The slots of the payload region that this end sends on a lane: none without a layout view (R55). -/
def sentSlots (s : State) (l : Fin 4) : Nat :=
  match s.orders.view with
  | some v => layoutCapacity v (sentDirection s.role) l
  | none => 0

/-- The superframe that a lane's framer sends (R54 to R56). -/
def frameOf (s : State) (runs : List FilledRun) (l : Fin 4) : SentFrame where
  lane := l
  count := s.count
  stamp := s.orders.stamp
  control := s.chan.toSend.headD emptySlot
  slots := (List.range (sentSlots s l)).map (payloadSlot runs l)

/-- A driver whose framer stops cancels its blanking timer; its output is off and draws no overcurrent (R88). -/
def LaneGuard.stopped (g : LaneGuard) : LaneGuard := { g with blanking := none, overcurrent := false }

/-- Every framer that may send does so; the others stop (R54, R88). -/
def sendFrames (runs : List FilledRun) (s : State) : State :=
  { s with
    sent := PerLane.ofFn fun l => if maySend s l then some (frameOf s runs l) else none
    lanes := PerLane.ofFn fun l => { s.lanes.get l with sending := maySend s l }
    prot := { s.prot with guards := PerLane.ofFn fun l => if maySend s l then guardOf s l else (guardOf s l).stopped }
    chan := { s.chan with toSend := s.chan.toSend.tail } }

/-- The sending work of a superframe (R54, R167). -/
def sendSuperframe (s : State) : State :=
  let (runs, t) := takeForSending s
  sendFrames runs (settlePool t)

/-! ### Receiving and delivery (R169 to R171) -/

/-- The copy of a position on a lane: none for "bad" (R170). A lane that has handed nothing on counts as bad, and so does
one whose superframe was judged by another stamp than the one now in force (R169). -/
def copyAt (s : State) (r : SlotRun) (k : Nat) : Option PayloadSlot :=
  match s.handed.get r.lane with
  | some h => if h.stamp = s.orders.stamp then (h.payload[r.first + k]?).join else none
  | none => none

/-- The result for one position: what is delivered, and whether it is lost or rescued (R170). -/
inductive Position where
  | delivered (cell : Cell)
  | rescued (cell : Cell)
  | nothing
  | lost
deriving DecidableEq, Repr

/-- The table of R170. -/
def judgePosition (a b : Option PayloadSlot) : Position :=
  match a, b with
  | some (.data cell), _ => .delivered cell
  | some .fill, _ => .nothing
  | none, some (.data cell) => .rescued cell
  | none, some .fill => .nothing
  | none, none => .lost

/-- The positions of an entry, in position order. -/
def judgeEntry (s : State) (e : Entry) : List Position :=
  match e.laneA with
  | none => []
  | some a => (List.range e.slots).map fun k =>
      judgePosition (copyAt s a k) (e.laneB.bind fun b => copyAt s b k)

/-- The cell that a position gives. -/
def Position.cell : Position → Option Cell
  | .delivered c => some c
  | .rescued c => some c
  | _ => none

/-- The position is lost. -/
def Position.isLost : Position → Bool
  | .lost => true
  | _ => false

/-- The position is rescued. -/
def Position.isRescued : Position → Bool
  | .rescued _ => true
  | _ => false

/-- The receive counters of a slot after positions (R170, R176). -/
def countPositions (ps : List Position) (x : Slot) : Slot :=
  { x with counters := { x.counters with
      delivered := satAdd Config.counterMax x.counters.delivered (ps.filterMap Position.cell).length
      lost := satAdd Config.counterMax x.counters.lost (ps.filter Position.isLost).length
      rescued := satAdd Config.counterMax x.counters.rescued (ps.filter Position.isRescued).length } }

/-- The positions bring a receive counter to saturation. -/
def positionsSaturate (ps : List Position) (x : Slot) : Bool :=
  satHit Config.counterMax x.counters.delivered (ps.filterMap Position.cell).length ||
    satHit Config.counterMax x.counters.lost (ps.filter Position.isLost).length ||
    satHit Config.counterMax x.counters.rescued (ps.filter Position.isRescued).length

/-- Delivery of one entry: its cells leave the receive side of its bound port in position order (R170, R171). -/
def deliverEntry (s : State) (e : Entry) : State :=
  match slotAt s.table.slots e.number with
  | none => s
  | some x =>
    let ps := judgeEntry s e
    let t := writeCounted (countPositions ps x) (positionsSaturate ps x) s
    { t with service := { t.service with
        delivered := t.service.delivered ++ (ps.filterMap Position.cell).map fun c => (portAt s.role x.record, c) } }

/-- The receive work of a superframe: every entry of the plan in force whose direction this end receives; nothing while
no plan is in force or in BLANK (R169). -/
def deliverSuperframe (s : State) : State :=
  let t := { s with service := { s.service with delivered := [] } }
  match planInForce s with
  | some p => if inBlank s then t else (p.direction (receivedDirection s.role)).entries.foldl deliverEntry t
  | none => t

/-! ### Grade outputs (R175) -/

/-- The two sides of a service port. -/
inductive Side where
  | transmit
  | receive
deriving DecidableEq, Repr

/-- The status output of a side (R175). -/
inductive GradeStatus where
  | idle
  | full
  | floor
  | shed
deriving DecidableEq, Repr

/-- The lines of a side: its status output, and its DUAL line. -/
structure GradeOutput where
  status : GradeStatus
  dual : Bool
deriving DecidableEq, Repr

/-- The lines for a served status (R175). -/
def gradeOf : Served → GradeOutput
  | .fullDual => ⟨.full, true⟩
  | .floorDual => ⟨.floor, true⟩
  | .fullSingle => ⟨.full, false⟩
  | .floorSingle => ⟨.floor, false⟩
  | .shed => ⟨.shed, false⟩

/-- The circuit bound to a side of a port at this end (R4). -/
def boundSlot (s : State) (side : Side) (port : Fin 32) : Option Slot :=
  match side with
  | .transmit => transmitSlot s.role s.table.slots port
  | .receive => receiveSlot s.role s.table.slots port

/-- The grade output lines of a side of a port (R175). They follow the plan in force and the bindings. A bound side whose
circuit has no entry in the plan in force shows IDLE with DUAL off (assumption log 46). -/
def gradeOutput (s : State) (side : Side) (port : Fin 32) : GradeOutput :=
  match boundSlot s side port, planInForce s with
  | some x, some p =>
    match (p.direction x.record.direction).entry x.record.number with
    | some e => gradeOf e.served
    | none => ⟨.idle, false⟩
  | _, _ => ⟨.idle, false⟩

end Sys2Proof.Machine
end

