-- ==== Sys2Proof/Machine/ChannelOps.lean ====
section
/-! DEFINITION. The control channel engine (chapter 5): cycles, forming messages, choosing and accepting a copy, misses and
silence. -/

namespace Sys2Proof.Machine

open Sys2Proof

/-! ### Cycles (R99) -/

/-- The number of the cycle that holds a count (R99). -/
def cycleNumber (c : Nat) (count : Count) : Word16 := BitVec.ofNat 16 (count.toNat / c)

/-- The cycle at the largest multiple of C below 2^32 is a void cycle: it holds a single superframe (R99). -/
def voidCycles (c : Nat) : Bool := decide (2 ^ 32 % c = 1)

/-- A cycle begins at this count (R99). -/
def cycleBegins (c : Nat) (count : Count) : Bool := decide (count.toNat % c = 0)

/-- The cycle that begins at this count is void (R99). -/
def beginsVoid (c : Nat) (count : Count) : Bool := voidCycles c && decide (count.toNat = 2 ^ 32 - 1)

/-- The cycle that ends at this count, the first of the next, was void (R99). -/
def endsVoid (c : Nat) (count : Count) : Bool := voidCycles c && decide (count.toNat = 0)

/-- The first count of the cycle before the one that holds a count, a void cycle passed over (R99). -/
def previousCycleStart (c : Nat) (count : Count) : Nat :=
  let start := count.toNat - count.toNat % c
  let last := 2 ^ 32 - 1 - (2 ^ 32 - 1) % c
  if c ≤ start then start - c else if voidCycles c then last - c else last

/-- The number of the cycle before the one that holds a count (R99, R105). -/
def previousCycle (c : Nat) (count : Count) : Word16 := BitVec.ofNat 16 (previousCycleStart c count / c)

/-! ### Forming a message (R101, R102, R106, R108) -/

/-- The receive lane report of this end (R72). -/
def laneReports (s : State) : PerLane LaneReport := PerLane.ofFn (laneReport s)

/-- The order carried in a steering message: the pending order (R106). -/
def pendingField (s : State) : Option OrderField :=
  s.orders.pending.map fun o => ⟨o.epoch, o.stamp, o.view, decide (o.kind ≠ .plain)⟩

/-- The steering message formed now (R106). -/
def formSteering (s : State) : Steering where
  cycle := cycleNumber s.params.c s.count
  link := s.link.state
  generation := s.table.generation
  stamp := s.orders.stamp
  c := s.params.c
  lead := s.params.lead
  order := pendingField s
  item := steeringItem s
  paused := pausedMark s
  lanes := laneReports s
  stormOn := s.prot.stormOn
  deadBand := decide (s.prot.supply = .deadBand)

/-- The mast reply formed now, echoing a cycle (R108). -/
def formReply (echo : Word16) (s : State) : Reply where
  echo := echo
  link := s.link.state
  generation := s.table.generation
  stageTarget := s.stage.target
  stageMode := s.stage.mode
  held := s.stage.items.length
  stamp := s.orders.stamp
  ready := s.orders.ready
  blank := inBlank s
  lanes := laneReports s
  causes := s.prot.guards.map (·.causes)
  stormOn := s.prot.stormOn
  deadBand := decide (s.prot.supply = .deadBand)

/-- The two halves of a message are to be sent in this superframe and the next (R101). -/
def queueMessage (msg : List Byte) (s : State) : State :=
  { s with chan := { s.chan with toSend := [firstHalf msg, secondHalf msg] } }

/-- The link states in which each cycle is judged for a miss, and in which the mast end replies (R102, R112, R113). -/
def linkHolds : LinkState → Bool
  | .syncing => true
  | .carrying => true
  | .holdover => true
  | _ => false

/-- The message of the cycle that begins in this superframe: none in a void cycle; at the truck end a steering message
but in STANDBY; at the mast end a reply when a steering message was accepted in the cycle before (R102, R109). -/
def formMessage (s : State) : State :=
  if beginsVoid s.params.c s.count then s
  else
    match s.role with
    | .truck =>
      if s.link.state = .standby then s
      else
        queueMessage (steeringBytes (formSteering s)) { s with orders := mapTransfers Transfer.sending s.orders }
    | .mast =>
      match s.chan.echo with
      | some k =>
        if linkHolds s.link.state then
          queueMessage (replyBytes (formReply k s)) { s with chan := { s.chan with echo := none } }
        else s
      | none => s

/-! ### Misses, silence and holdover (R112 to R114, R127, R128) -/

/-- The miss count and silence after a cycle is judged (R112 to R114). -/
def judgeMiss (missLimit : Nat) (c : Channel) : Channel :=
  if c.accepted then c
  else
    let misses := min Config.missMax (c.missCount + 1)
    { c with missCount := misses, silent := c.silent || decide (missLimit ≤ misses) }

/-- Silence moves a SYNCING or CARRYING link to HOLDOVER with its origin and a holdover count of 0 (R127). -/
def enterHoldover (origin : Origin) (s : State) : State :=
  let s := setLink .holdover s
  { s with link := { s.link with origin := some origin, holdCount := 0, expiryDue := false } }

/-- The holdover limit is formed from the configuration in force, as at every cycle end (R128, R188). -/
def formLimit (s : State) : State := { s with link := { s.link with limit := holdoverLimit s.params } }

/-- A cycle end in HOLDOVER: the count rises by 1, and at the limit the expiry is due (R128). -/
def countHoldover (s : State) : State :=
  { s with link := { s.link with
      holdCount := s.link.holdCount + 1
      expiryDue := decide (s.link.limit ≤ s.link.holdCount + 1) } }

/-- The judgement of a cycle that was not void, in the link states that judge (R112 to R114, R127, R128). -/
def judgeCycle (s : State) : State :=
  let t := { s with chan := judgeMiss s.params.missLimit s.chan }
  match s.link.state with
  | .syncing => if t.chan.silent then enterHoldover .syncing t else t
  | .carrying => if t.chan.silent then enterHoldover .carrying t else t
  | .holdover => countHoldover t
  | _ => s

/-- The end of a control cycle: the holdover limit is formed, the cycle is judged, and the next cycle's message is formed,
unless holdover expires at this cycle end, where the message is formed after the expiry (R112, R128). -/
def endCycle (s : State) : State :=
  let s := formLimit s
  let s := if endsVoid s.params.c s.count then s else judgeCycle s
  let s := { s with chan := { s.chan with accepted := false, cycleDue := false } }
  if s.link.expiryDue then s else formMessage s

/-- Holdover expires: the link moves to CALLING, and the message of the cycle is formed (R128). -/
def expireHoldover (s : State) : State := formMessage (moveToCalling s)

/-! ### Accepting a message (R105, R107, R110) -/

/-- The tests of R105 on a steering message whose first half was received at a count. -/
def steeringAcceptable (m : Steering) (firstCount : Count) (s : State) : Bool :=
  decide (s.role = .mast) && timingListed m.c m.lead &&
    match s.link.state with
    | .standby => false
    | .calling => true
    | _ => cycleBegins s.params.c firstCount && decide (m.cycle = cycleNumber s.params.c firstCount) &&
        decide (m.c = s.params.c) && decide (m.lead = s.params.lead)

/-- The tests of R105 on a mast reply. -/
def replyAcceptable (m : Reply) (s : State) : Bool :=
  decide (s.role = .truck) && decide (s.link.state ≠ .standby) &&
    decide (m.echo = previousCycle s.params.c s.count)

/-- The conditions of R18 under which an accepted steering message without an item clears the stage area. -/
def stageClears (m : Steering) (s : State) : Bool :=
  m.item.isNone && decide ((m.order.map fun o => o.stamp.generation) ≠ s.stage.target ∨ s.stage.target = none) &&
    decide (m.link ≠ .holdover) && !m.deadBand && !m.paused && decide (s.prot.supply = .normal)

/-- Stage 3 of R107: the item is judged by R17, or the stage area cleared by R18. -/
def hearItem (m : Steering) (s : State) : State :=
  match m.item with
  | some i =>
    { s with stage := judgeItem (decide (s.prot.supply = .deadBand)) s.table.generation i s.stage }
  | none => if stageClears m s then { s with stage := StageArea.empty } else s

/-- The latest far-end report is this message; the miss count becomes 0 and silence ends (R107, R110, R114). -/
def channelHears (c : Channel) : Channel := { c with missCount := 0, silent := false, accepted := true }

/-- C and the lead come into force; with another C than before, the superframe in progress begins a cycle by the new C or
does not (R99, R100; assumption log 24). -/
def setTiming (c lead : Nat) (s : State) : State :=
  { s with
    params := { s.params with c := c, lead := lead }
    chan := { s.chan with cycleDue := if c = s.params.c then s.chan.cycleDue else cycleBegins c s.count } }

/-- In CALLING the mast end takes the C and lead of the message into force (R100). -/
def takeTiming (m : Steering) (s : State) : State :=
  if s.link.state = .calling then setTiming m.c m.lead s else s

/-- An accepted steering message, by the five stages of R107. -/
def hearSteering (m : Steering) (s : State) : State :=
  let s := { s with chan := { channelHears s.chan with fromTruck := some (m, s.count) } }
  let s := linkHears (takeTiming m s)
  let s := hearOrders m (hearItem m s)
  { s with chan := { s.chan with echo := some m.cycle } }

/-- An accepted mast reply, by the three stages of R110. -/
def hearReply (m : Reply) (s : State) : State :=
  let s := { s with chan := { channelHears s.chan with fromMast := some (m, s.count) } }
  readReply m (linkHears s)

/-- A chosen copy that is a steering message (R105). -/
def chooseSteering (m : Steering) (firstCount : Count) (s : State) : State :=
  if steeringAcceptable m firstCount s then hearSteering m s else s

/-- A chosen copy that is a mast reply (R105). -/
def chooseReply (m : Reply) (s : State) : State := if replyAcceptable m s then hearReply m s else s

/-- A chosen copy: its message bytes and the count at which its first half was received (R104, R105, R203). -/
def chooseMessage (msg : List Byte) (firstCount : Count) (s : State) : State :=
  match steeringOf msg with
  | some m => chooseSteering m firstCount s
  | none =>
    match replyOf msg with
    | some m => chooseReply m s
    | none => s

/-! ### Halves and copies (R103, R104) -/

/-- The first half that a lane holds waiting after a superframe: a FIRST slot handed in it (R103). -/
def waitingAfter (h : Option HandOver) : Option WaitingHalf :=
  match h with
  | some x =>
    match x.control with
    | some (count, bytes) => if byteAt bytes 0 = 0x01 then some ⟨count, bytes⟩ else none
    | none => none
  | none => none

/-- The checked copy that a lane completes in a superframe: a SECOND slot handed in it, paired with the lane's waiting
first half of the count before (R103). -/
def copyOf (w : Option WaitingHalf) (h : Option HandOver) : Option (List Byte × Count) :=
  match w, h with
  | some first, some x =>
    match x.control with
    | some (count, bytes) =>
      if byteAt bytes 0 = 0x02 ∧ first.count = count - 1 then
        (checkedMessage first.bytes bytes).map fun m => (m, first.count)
      else none
    | none => none
  | _, _ => none

/-- The copy chosen in a superframe: that of the lowest-numbered lane that completed a checked one (R104). -/
def chosenCopy (s : State) : Option (List Byte × Count) :=
  laneNumbers.findSome? fun l => copyOf (s.chan.waiting.get l) (s.handed.get l)

/-- The control work of a superframe: halves are paired or held, and the chosen copy is judged (R103 to R105). -/
def receiveControl (s : State) : State :=
  let chosen := chosenCopy s
  let s := { s with chan := { s.chan with waiting := PerLane.ofFn fun l => waitingAfter (s.handed.get l) } }
  match chosen with
  | some (msg, firstCount) => chooseMessage msg firstCount s
  | none => s

end Sys2Proof.Machine
end

