-- ==== Sys2Proof/Machine/GuardOps.lean ====
section
/-! DEFINITION. Surge and supply protection (chapter 4): strikes, holds, storm decay, driver faults and retries, and the
expiry of the protection timers. -/

namespace Sys2Proof.Machine

open Sys2Proof

/-- The expiry of a timer is to be taken: no boundary is left to it (R77). -/
def timerDue (t : Option Nat) : Bool := decide (t = some 0)

/-- A timer after one superframe boundary (R77). -/
def tick : Option Nat → Option Nat
  | some (n + 1) => some n
  | t => t

/-! ### Strikes (R78 to R80, R84) -/

/-- The strike inputs with one input's counted strike: its count rises and its refractory runs (R78, R79). -/
def StrikeInput.counted (i : StrikeInput) : StrikeInput := ⟨satAdd Config.countMax8 i.count 1, true⟩

/-- STRIKE is applied to a lane, and its hold is started or restarted (R79). -/
def strikeLane (l : Fin 4) (s : State) : State :=
  let g := guardOf s l
  applyCause .strike l (putGuard l { g with strikeHold := some (Config.perTenMs * s.prot.config.strikeHold) } s)

/-- The storm decay timer starts (R84). -/
def startDecay (s : State) : State :=
  { s with prot := { s.prot with stormDecay := some (Config.perSecond * s.prot.config.stormDecay) } }

/-- A strike raises the storm level by 4, to at most 15; from 0 the decay timer starts (R84). -/
def strikeStorm (s : State) : State :=
  setStormLevel (min Config.stormMax (s.prot.stormLevel + Config.strikeWeight))
    (if s.prot.stormLevel = 0 then startDecay s else s)

/-- A pulse that has lasted 2 us: ignored while the input's refractory runs, else a counted strike with its four
effects (R78, R79). -/
def countStrike (i : Fin 4) (s : State) : State :=
  let input := s.prot.inputs.get i
  if input.refractory then s
  else
    let t := { s with prot := { s.prot with inputs := s.prot.inputs.set i input.counted } }
    let t := raise .strike (raiseIf (satHit Config.countMax8 input.count 1) .counterSat t)
    onLanes (fun l => (s.prot.config.masks.get i).get l) strikeLane (strikeStorm t)

/-- The refractory of an input ends (R78). -/
def endRefractory (i : Fin 4) (s : State) : State :=
  { s with prot := { s.prot with inputs := s.prot.inputs.set i { s.prot.inputs.get i with refractory := false } } }

/-- A lane's strike hold expires where it is due (R80). -/
def expireStrikeHold (l : Fin 4) (s : State) : State :=
  if timerDue (guardOf s l).strikeHold then
    removeCause .strike l (putGuard l { guardOf s l with strikeHold := none } s)
  else s

/-- The storm decay timer expires where it is due: the level falls by 1, and the timer starts again above 0 (R84). -/
def expireStormDecay (s : State) : State :=
  if timerDue s.prot.stormDecay then
    let level := s.prot.stormLevel - 1
    let t := { s with prot := { s.prot with stormDecay := none } }
    setStormLevel level (if level = 0 then t else startDecay t)
  else s

/-! ### Drivers (R89 to R92) -/

/-- A driving driver reports an overcurrent: it enters LIMITING and its blanking timer starts (R89). -/
def reportOvercurrent (l : Fin 4) (s : State) : State :=
  if driverState s l = .driving then
    putGuard l { guardOf s l with overcurrent := true, blanking := some (blankingLength s.prot.config.blanking) } s
  else s

/-- The overcurrent of a limiting driver ends: the timer is cancelled and the driver drives again (R89). -/
def endOvercurrent (l : Fin 4) (s : State) : State :=
  if driverState s l = .limiting then putGuard l (guardOf s l).stopped s else s

/-- A driver fault (R90). -/
def faultDriver (l : Fin 4) (s : State) : State :=
  let g := guardOf s l
  let t := putGuard l
    { g.stopped with
      faults := satAdd Config.countMax8 g.faults 1
      retry := if s.prot.config.autoretry then some (retryLength s.prot.config.driverRetry) else g.retry } s
  applyCause .driver l (raise .driver (raiseIf (satHit Config.countMax8 g.faults 1) .counterSat t))

/-- A blanking timer expires where it is due, with the overcurrent still present: the driver has a fault (R89). -/
def expireBlanking (l : Fin 4) (s : State) : State :=
  if timerDue (guardOf s l).blanking && decide (driverState s l = .limiting) then faultDriver l s else s

/-- DRIVER is removed from a lane and its retry timer stops (R90, R92). -/
def releaseDriver (l : Fin 4) (s : State) : State :=
  removeCause .driver l (putGuard l { guardOf s l with retry := none } s)

/-- A driver retry timer expires where it is due (R90). -/
def expireRetry (l : Fin 4) (s : State) : State :=
  if timerDue (guardOf s l).retry then releaseDriver l s else s

/-- A thermal trip of a lane's driver (R91). -/
def tripThermal (l : Fin 4) (s : State) : State := applyCause .thermal l (raise .driver s)

/-! ### PROTECTION SETUP (R86, R90, R189) -/

/-- Turning autoretry off cancels every retry timer; turning it on starts one for every lane that holds DRIVER and has
none running (R90). -/
def retryAfterSetup (was now : Bool) (length : Nat) (g : LaneGuard) : LaneGuard :=
  if was && !now then { g with retry := none }
  else if !was && now && g.causes.driver && g.retry.isNone then { g with retry := some length }
  else g

/-- The storm-isolate flag of a lane is written: while the posture is ON, STORM follows a change of it at once (R86). -/
def isolateLane (was now : Bool) (l : Fin 4) (s : State) : State :=
  if !s.prot.stormOn || decide (was = now) then s
  else if now then applyCause .storm l s else removeCause .storm l s

/-- The protection parameters are written together, with their effects on timers and cause sets (R189). -/
def writeGuardConfig (new : GuardConfig) (s : State) : State :=
  let old := s.prot.config
  let t := { s with prot := { s.prot with
    config := new
    guards := s.prot.guards.map (retryAfterSetup old.autoretry new.autoretry (retryLength new.driverRetry)) } }
  onLanes (fun _ => true) (fun l => isolateLane (old.isolate.get l) (new.isolate.get l) l) t

/-! ### Supply (R93) -/

/-- The supply takes a state; SUPPLY is set at a change (R93). -/
def setSupply (new : Supply) (s : State) : State :=
  raiseIf (decide (new ≠ s.prot.supply)) .supply { s with prot := { s.prot with supply := new } }

/-! ### Timers at a boundary (R77) -/

/-- The timers of a lane after a boundary. -/
def LaneGuard.tick (g : LaneGuard) : LaneGuard :=
  { g with
    strikeHold := Machine.tick g.strikeHold, retry := Machine.tick g.retry, blanking := Machine.tick g.blanking }

/-- Every protection timer that is due expires (R80, R84, R89, R90). -/
def expireGuards (s : State) : State :=
  let s := onLanes (fun _ => true) expireStrikeHold s
  let s := expireStormDecay s
  let s := onLanes (fun _ => true) expireBlanking s
  onLanes (fun _ => true) expireRetry s

end Sys2Proof.Machine
end

