-- ==== Sys2Proof/Machine/BoundaryOps.lean ====
section
/-! DEFINITION. What time alone brings: the expiry of the call schedule (R121, R123), the end of a planning run (R42), and
the superframe boundary, which settles what is still to be taken in the superframe in progress, does its work and
advances the count (R53; assumption log 2). -/

namespace Sys2Proof.Machine

open Sys2Proof

/-! ### The call schedule (R121, R123) -/

/-- The timer of the call schedule has expired in a phase. -/
def scheduleDue (phase : CallPhase) (s : State) : Bool :=
  decide (s.link.state = .calling) && decide (s.link.phase = some phase) && timerDue s.link.timer

/-- The third window of a round expires: CALL_FAILED is set, and the schedule waits, or the link gives up where the
recall interval is 0 (R123). The attempt number stays 3 in the wait (assumption log 44). -/
def failRound (s : State) : State :=
  let s := raise .callFailed s
  if s.params.recallInterval = 0 then moveToStandby s
  else startPhase .recallWait s.link.attempt (Config.perSecond * s.params.recallInterval) s

/-- A call window expires (R121). -/
def expireWindow (s : State) : State :=
  if scheduleDue .window s then
    if s.link.attempt < 3 then startPhase .gap s.link.attempt Config.gapLength s else failRound s
  else s

/-- The gap expires: the next window of the round begins (R121). -/
def expireGap (s : State) : State :=
  if scheduleDue .gap s then
    startPhase .window (s.link.attempt + 1) (Config.perMs * s.params.callWindow) s
  else s

/-- The recall wait expires: a new round begins (R121). -/
def expireRecall (s : State) : State := if scheduleDue .recallWait s then startRound s else s

/-! ### The end of a planning run (R42, R172) -/

/-- The planning run in progress that ends at this count. -/
def runDue (s : State) : Option Run := s.planner.run.filter fun r => decide (r.stop = s.count)

/-- The planner's records with the plan of a run that has ended (R42). -/
def placePlan (stampInForce : Stamp) (plan : Plan) (p : Planner) : Planner :=
  if plan.stamp = stampInForce then { p with run := none, current := some plan, fresh := true }
  else { p with run := none, next := some plan }

/-- A planning run ends: its plan is placed, gives the queue limits, and at the mast end its stamp is the ready stamp;
the queues are cut (R42, R146, R172). -/
def endRun (r : Run) (s : State) : State :=
  let plan := computePlan r.stamp r.view r.table
  let s := { s with
    planner := placePlan s.orders.stamp plan s.planner
    service := { s.service with limits := some plan }
    orders := if s.role = .mast then { s.orders with ready := some r.stamp } else s.orders }
  trimQueues (queueLimit (some plan)) s

/-- A planning run ends where one is due. -/
def judgeRunEnd (s : State) : State :=
  match runDue s with
  | some r => endRun r s
  | none => s

/-! ### The superframe boundary -/

/-- The end of a control cycle, where one is due (R112). -/
def judgeCycleEnd (s : State) : State := if s.chan.cycleDue then endCycle s else s

/-- The expiry of holdover, where it is due (R128). -/
def judgeHoldover (s : State) : State := if s.link.expiryDue then expireHoldover s else s

/-- The start of a resync full sync, where it is due (R159). -/
def judgeFullSync (s : State) : State := if fullSyncDue s then startFullSync s else s

/-- What the superframe in progress still holds to be taken at its beginning: timers, the call schedule, the end of a
planning run, the cycle end with holdover, and the epochs, in this order (DESIGN CHOICE: assumption log 2). -/
def settle (s : State) : State :=
  let s := expireRecall (expireGap (expireWindow (expireGuards s)))
  let s := judgeHoldover (judgeCycleEnd (judgeRunEnd s))
  judgeCompletion (judgeTakeMast (judgeTakeTruck s))

/-- Every lane that has not made its evaluation in this superframe makes it, in ascending number (R66). -/
def evaluateAll (inputs : PerLane LaneInput) (s : State) : State :=
  laneNumbers.foldl (fun s l => evaluateOnce l (inputs.get l) s) s

/-- The superframe ends: the count advances where it is running, every timer has one boundary less, a plan that became
current by its run comes into force, and the next superframe may begin a cycle (R40, R53, R77, R99). -/
def advance (s : State) : State :=
  let count := if s.counting then s.count + 1 else s.count
  { s with
    count := count
    planner := { s.planner with fresh := false }
    handed := PerLane.all none
    prot := { s.prot with guards := s.prot.guards.map LaneGuard.tick, stormDecay := tick s.prot.stormDecay }
    link := { s.link with timer := tick s.link.timer }
    chan := { s.chan with cycleDue := cycleBegins s.params.c count } }

/-- The work of a superframe: reception and delivery, the control slots, the order judgement of the superframe, and
sending (assumption log 3). -/
def superframeWork (inputs : PerLane LaneInput) (s : State) : State :=
  let s := deliverSuperframe (evaluateAll inputs s)
  let s := judgeIssue (judgeFullSync (receiveControl s))
  sendSuperframe s

/-- The superframe boundary that completes the superframe in progress (R53). -/
def completeSuperframe (inputs : PerLane LaneInput) (s : State) : State :=
  advance (superframeWork inputs (settle s))

end Sys2Proof.Machine
end

