-- ==== Sys2Proof/Machine/Boundary.lean ====
section
/-! DEFINITION. The superframe boundary (R53) and the arrival of a cell at a service port (R161). -/

namespace Sys2Proof.Machine

open Sys2Proof

/-- The superframe in progress is completed, with what each lane received in it (R53, R54, R66, R167, R169). -/
def execSuperframeBoundary (inputs : PerLane LaneInput) (s : State) : Host.Outcome State Fault Refusal :=
  running s (completeSuperframe inputs)

/-- A cell arrives at a transmit side (R161 to R166). A cell is 60 bytes; nothing else arrives. -/
def execCellArrival (port : Fin 32) (cell : Cell) (s : State) : Host.Outcome State Fault Refusal :=
  running s fun s => if cell.length = Config.cellBytes then arriveCell port cell s else s

end Sys2Proof.Machine
end

