-- ==== Sys2Proof/Machine/AnswerOps.lean ====
section
/-! DEFINITION. What the reading requests return: the items of each answer body, in the order in which the owning rule lists
them (R200; the layout of conditional items is assumption log 6). -/

namespace Sys2Proof.Machine

open Sys2Proof

/-- An item that may be marked absent: a presence byte of 1 and the item, or of 0 and zeros of its size (R200). -/
def optionalItem (size : Nat) : Option (List Field) → List Field
  | some fs => .num 1 1 :: fs
  | none => [.num 1 0, .num size 0]

/-- A mark. -/
def markField (b : Bool) : Field := .num 1 (markCode b)

/-- A stamp in 4 bytes. -/
def stampField (s : Stamp) : Field := .bytes (stampBytes s)

/-- A record in 16 bytes. -/
def recordField (r : Record) : Field := .bytes (recordBytes r)

/-- An edit's kind, and its record bytes. -/
def editFields (e : Edit) : List Field := [.num 1 (editCode e), .bytes (editBytes e)]

/-- An edit as READ CHANGES returns it: its kind, its number and, for ADD and MODIFY, its record (R14, R19). -/
def changeFields (e : Edit) : List Field :=
  .num 1 (editCode e) :: .num 1 (editNumber e).val :: (editRecord e).toList.map recordField

/-- The commit procedure state's code (R200). -/
def commitStateCode (o : Orders) : Nat :=
  match o.commit with
  | none => 0
  | some j =>
    match j.phase with
    | .transferring _ => 1
    | .armed _ => 2
    | .ordered _ _ => 3

/-! ### IDENTIFY (R193) -/

/-- The items of IDENTIFY, with the chip address that the address pins give. -/
def identityFields (pins : BitVec 2) (s : State) : List Field :=
  [.identity .family, .identity .part, .num 1 1, .uncoded (.role s.role), .num 1 pins.toNat, .num 1 4, .num 1 64,
   .num 1 32, .num 2 Config.poolSize, .num 1 Config.changeSetSize, .num 1 64, .num 1 4]

/-! ### CONFIGURE and PROTECTION SETUP (R187, R189) -/

/-- The eight values of CONFIGURE in force. -/
def paramFields (p : Params) : List Field :=
  [.num 1 p.c, .num 2 p.lead, .num 1 p.missLimit, .num 1 p.holdoverBase, .num 1 p.holdoverScale, .num 2 p.callWindow,
   .num 1 p.recallInterval, .num 2 p.readmitHold]

/-- Every value of PROTECTION SETUP in force. -/
def guardConfigFields (g : GuardConfig) : List Field :=
  [.num 1 g.strikeHold, .num 1 g.stormDecay, .num 1 g.driverRetry, markField g.autoretry, .num 1 g.currentLimit,
   .num 1 g.blanking] ++ (g.masks.toList.map fun m => .num 1 (laneSetCode m)) ++ [.num 1 (laneSetCode g.isolate)]

/-! ### READ CIRCUIT and READ CHANGES (R14, R15, R19) -/

/-- Served status and placement of a LIVE circuit: of its entry in the plan in force (R5, R15). -/
def placementOf (s : State) (r : Record) : Option Entry :=
  (planInForce s).bind fun p => (p.direction r.direction).entry r.number

/-- A lane of a placement with its first slot: FF hex and 0 when absent (R201). -/
def runFields : Option SlotRun → List Field
  | some r => [.num 1 r.lane.val, .num 2 r.first]
  | none => [.num 1 255, .num 2 0]

/-- Served status and placement: status, lane A and first slot, lane B and first slot, slot count. -/
def placementFields (e : Entry) : List Field :=
  .num 1 (servedCode e.served) :: (runFields e.laneA ++ runFields e.laneB ++ [.num 2 e.slots])

/-- What is pending for a number: at the truck end the edit of the change set with its position, at the mast end the
item of the stage area with its index, and the stage's target and mode (R15). A RETIRE, which has no record, gives its number
and 15 zeros there (assumption log 50). -/
def pendingChangeFields (s : State) (n : Fin 64) : List Field :=
  match s.role with
  | .truck =>
    optionalItem 18 ((heldEdit s.changes n).map fun e =>
      [.num 1 (editCode e), .num 1 (editPosition s.changes n), .bytes (editBytes e)])
  | .mast =>
    optionalItem 21 ((heldEdit s.stage.items n).map fun e =>
      [.num 1 (editPosition s.stage.items n), .num 1 (editCode e), .bytes (editBytes e),
       .num 2 (s.stage.target.getD 0).toNat, .num 1 (modeCode s.stage.mode)])

/-- The items of READ CIRCUIT (R15). A FREE slot is answered with its state and the pending edit or item alone. -/
def circuitFields (s : State) (n : Fin 64) : List Field :=
  match slotAt s.table.slots n with
  | some x =>
    [.uncoded (.slotState true), recordField x.record] ++
      optionalItem 9 ((placementOf s x.record).map placementFields) ++ pendingChangeFields s n
  | none => .uncoded (.slotState false) :: pendingChangeFields s n

/-- The answer of READ CHANGES at the truck end for a position (R14). -/
def changesAnswer (s : State) (i : Nat) : AnswerCode × List Field :=
  let header : List Field := [.num 1 (commitStateCode s.orders), .num 1 s.changes.length]
  if 15 < i then (.badField, [])
  else
    match s.changes[i]? with
    | some e => (.ok, header ++ changeFields e)
    | none => (.noRecord, header)

/-- The answer of READ CHANGES at the mast end for an index (R19). -/
def stageAnswer (s : State) (i : Nat) : AnswerCode × List Field :=
  let header : List Field :=
    optionalItem 2 (s.stage.target.map fun t => [.num 2 t.toNat]) ++
      [.num 1 (modeCode s.stage.mode), .num 1 s.stage.total, .num 1 s.stage.items.length]
  if 63 < i then (.badField, [])
  else
    match s.stage.items[i]? with
    | some e => (.ok, header ++ changeFields e)
    | none => (.noRecord, header)

/-! ### READ PLAN (R47, R48) -/

/-- The record a selector names: CURRENT is 0, NEXT is 1 (R47, R200). -/
def selectedPlan (s : State) (next : Bool) : Option Plan := if next then s.planner.next else s.planner.current

/-- The in-force mark of a record: it is the plan in force (R47). -/
def inForceMark (s : State) (next : Bool) : Bool := !next && (planInForce s).isSome

/-- The answer where the record selected is none: BUSY for NEXT while a run is in progress, else NONE (R47), which carries
the code of READ PLAN (assumption log 47). -/
def noPlanAnswer (s : State) (next : Bool) : AnswerCode × List Field :=
  match next, s.planner.run with
  | true, some r => (.busy, [stampField r.stamp, .num 4 (r.stop - s.count).toNat])
  | _, _ => (.none_, [])

/-- A plan entry in 11 bytes (R201). -/
def entryFields (e : Entry) : List Field :=
  [.num 1 e.number.val, .num 1 e.position, .num 1 (servedCode e.served)] ++ runFields e.laneA ++ runFields e.laneB ++
    [.num 2 e.slots]

/-- The answer of READ PLAN with the circuit form (R47). -/
def planCircuitAnswer (s : State) (next : Bool) (n : Fin 64) : AnswerCode × List Field :=
  match selectedPlan s next with
  | none => noPlanAnswer s next
  | some p =>
    match p.entry n with
    | some (d, e) =>
      (.ok, [stampField p.stamp, markField (inForceMark s next), .num 1 (directionCode d), .num 1 (classCode e.cls)] ++
        entryFields e)
    | none => (.noRecord, [stampField p.stamp])

/-- What READ PLAN with the lane form returns of one lane (R48). -/
def planLaneFields (p : Plan) (d : Direction) (l : Fin 4) : List Field :=
  let v := viewDir p.view d l
  let room := (p.direction d).rooms.get l
  [.num 1 (kindCode (p.view.get l).kind), markField v.usable, markField v.suspect, .num 1 v.grade.val,
   .num 2 room.capacity, .num 2 (room.capacity - room.remaining), .num 2 room.remaining,
   .num 1 (countRuns (p.direction d) l)]

/-- The answer of READ PLAN with the lane form (R48). -/
def planLaneAnswer (s : State) (next : Bool) (d : Direction) : AnswerCode × List Field :=
  match selectedPlan s next with
  | none => noPlanAnswer s next
  | some p =>
    (.ok, [stampField p.stamp, markField (inForceMark s next), .num 2 p.stamp.generation.toNat, .num 1 p.live] ++
      laneNumbers.flatMap (planLaneFields p d) ++
      [.num 1 (countServed (p.direction d) .fullDual), .num 1 (countServed (p.direction d) .floorDual),
       .num 1 (countServed (p.direction d) .fullSingle), .num 1 (countServed (p.direction d) .floorSingle),
       .num 1 (countServed (p.direction d) .shed)])

/-! ### READ LANE and READ COUNTERS (R73, R178, R186) -/

/-- The number that stands for a driver state in an answer item without a stated code. -/
def driverStateIndex : DriverState → Nat
  | .unused => 0
  | .idle => 1
  | .driving => 2
  | .limiting => 3
  | .tripped => 4

/-- The four counters of a lane (R60). -/
def laneCounterFields (c : LaneCounters) : List Field :=
  [.num 4 c.headersLost, .num 4 c.receivedValid, .num 4 c.stampMismatch, .num 4 c.damagedBlocks]

/-- The far end's report of a lane in the latest far-end message (R73). -/
def farReport (s : State) (l : Fin 4) : Option LaneReport :=
  match s.role with
  | .mast => s.chan.fromTruck.map fun m => m.1.lanes.get l
  | .truck => s.chan.fromMast.map fun m => m.1.lanes.get l

/-- A layout's slot count in a direction, none while the stamp in force is 0/0 (R73). -/
def layoutSlots (s : State) (d : Direction) (l : Fin 4) : Option Nat := s.orders.view.map fun v => layoutCapacity v d l

/-- The items of READ LANE (R73), with the driver-fault count of R90 after the driver state (assumption log 43). -/
def laneFields (s : State) (l : Fin 4) : List Field :=
  let lane := s.lanes.get l
  let g := guardOf s l
  let grade := effectiveGrade lane
  [markField lane.enable, .num 1 (kindCode lane.kind), markField lane.signal, .num 1 lane.gradeInput.val, .num 1 grade,
   .num 2 (capacityOf lane.kind grade), .num 1 (laneStateCode lane.state), .num 2 lane.score,
   markField (alignedState lane.state)] ++
  optionalItem 1 (if lane.state = .aligning then some [.num 1 lane.validRun] else none) ++
  optionalItem 1 (if alignedState lane.state then some [.num 1 lane.missRun] else none) ++
  optionalItem 8 (if lane.state = .admitting then some [.num 4 lane.holdCount, .num 4 lane.holdTarget] else none) ++
  [markField lane.sending] ++
  optionalItem 2 ((layoutSlots s (sentDirection s.role) l).map fun n => [.num 2 n]) ++
  optionalItem 2 ((layoutSlots s (receivedDirection s.role) l).map fun n => [.num 2 n]) ++
  laneCounterFields lane.counters ++
  [.num 1 (causesCode g.causes), .uncoded (.driverState (driverStateIndex (driverState s l))), .num 1 g.faults] ++
  optionalItem 4 ((farReport s l).map fun r =>
    [.num 1 (kindCode r.kind), .num 1 (laneStateCode r.state), .num 1 r.grade.toNat, .num 1 r.score16.toNat])

/-- The six counters of a slot (R178). -/
def circuitCounterFields (c : CircuitCounters) : List Field :=
  [.num 4 c.sent, .num 4 c.fill, .num 4 c.dropped, .num 4 c.delivered, .num 4 c.lost, .num 4 c.rescued]

/-- The items of READ COUNTERS with the circuit form: a FREE slot's counters are zero (R178). -/
def circuitCountersFields (s : State) (n : Fin 64) : List Field :=
  match slotAt s.table.slots n with
  | some x => .uncoded (.slotState true) :: circuitCounterFields x.counters
  | none => .uncoded (.slotState false) :: circuitCounterFields CircuitCounters.zero

/-- The items of READ COUNTERS with the end form (R178). -/
def endCountersFields (s : State) : List Field :=
  [.num 4 s.service.stray, .num 2 (occupancy s), markField s.service.exhausted]

/-- The items of READ COUNTERS with the protection form (R186). -/
def guardCountersFields (s : State) : List Field :=
  (s.prot.inputs.toList.map fun i => .num 1 i.count) ++ s.prot.guards.toList.map fun g => .num 1 g.faults

/-! ### STATUS (R117, R134, R194) -/

/-- The number that stands for a call phase in an answer item without a stated code. -/
def callPhaseIndex : CallPhase → Nat
  | .window => 0
  | .gap => 1
  | .recallWait => 2

/-- The link group of STATUS (R134), with the holdover limit formed at the latest cycle end (R128, R188). -/
def statusLink (s : State) : List Field :=
  [.num 1 (linkStateCode s.link.state)] ++
  optionalItem 6 (match s.link.state, s.link.phase with
    | .calling, some p => some [.uncoded (.callPhase (callPhaseIndex p)), .num 1 s.link.attempt,
        .num 4 (s.link.timer.getD 0)]
    | _, _ => none) ++
  optionalItem 9 (match s.link.state with
    | .holdover => some [.num 1 (linkStateCode (originState s.link.origin)), .num 4 s.link.holdCount,
        .num 4 s.link.limit]
    | _ => none)

/-- BLANK: this end's own at the mast end, the one last reported at the truck end (R148, R194), and the mark no while no
mast reply is held (assumption log 45). -/
def shownBlank (s : State) : Bool :=
  match s.role with
  | .mast => inBlank s
  | .truck => ((latestReply s).map (·.blank)).getD false

/-- The ready stamp: this end's own at the mast end, the one last reported at the truck end (R194). -/
def shownReady (s : State) : Option Stamp :=
  match s.role with
  | .mast => s.orders.ready
  | .truck => (latestReply s).bind (·.ready)

/-- The orders group of STATUS at the truck end (R194). -/
def statusTruckOrders (o : Orders) : List Field :=
  optionalItem 9 (o.pending.map fun p => [.num 4 p.epoch.toNat, stampField p.stamp, markField (decide (p.kind ≠ .plain))]) ++
  optionalItem 4 (o.latest.map fun p => [stampField p]) ++
  [.num 1 o.mismatchCount, markField o.resync.isSome] ++
  optionalItem 1 (o.resync.map fun r => [.uncoded (.resyncKind (decide (r = .fullSync)))])

/-- The orders group of STATUS at the mast end (R194). -/
def statusMastOrders (o : Orders) : List Field :=
  optionalItem 8 (o.heard.map fun h => [.num 4 h.order.epoch.toNat, stampField h.order.stamp]) ++ [markField o.mismatch]

/-- The requested epoch of a triggered commit (R155). -/
def commitTrigger (o : Orders) : Option Count :=
  match o.commit with
  | some j =>
    match j.phase with
    | .armed g => g
    | _ => none
  | none => none

/-- The commit group of STATUS (R194). -/
def statusCommit (o : Orders) : List Field :=
  [.num 1 (commitStateCode o)] ++
  optionalItem 4 (o.commit.map fun j => [.num 2 j.target.toNat, .num 1 j.total, .num 1 j.code]) ++
  [markField (commitTrigger o).isSome] ++
  optionalItem 4 ((commitTrigger o).map fun g => [.num 4 g.toNat]) ++
  optionalItem 8 (o.done.map fun d => [.num 2 d.generation.toNat, .num 4 d.epoch.toNat, markField d.moved, .num 1 d.code])

/-- The synchronising group of STATUS (R134, R159, R194). -/
def statusSync (s : State) : List Field :=
  optionalItem 1 (s.orders.decision.map fun d => [.uncoded (.syncOutcome (decide (d = .fullSync)))]) ++
  [markField s.orders.fullSync.isSome] ++
  optionalItem 4 (s.orders.fullSync.map fun f =>
    [.num 2 f.target.toNat, .num 1 f.items.length, .num 1 (((latestReply s).map (·.held)).getD 0)])

/-- The far-end summary of STATUS, with the stage, ready stamp and BLANK at the truck end (R117). -/
def summaryOfMast (m : Reply) (arrival : Count) : List Field :=
  [.num 4 arrival.toNat, .num 1 (linkStateCode m.link), .num 2 m.generation.toNat, stampField m.stamp,
   .uncoded (.posture m.stormOn), .uncoded (.supply m.deadBand)] ++
  optionalItem 2 (m.stageTarget.map fun t => [.num 2 t.toNat]) ++ [.num 1 (modeCode m.stageMode), .num 1 m.held] ++
  optionalItem 4 (m.ready.map fun r => [stampField r]) ++ [markField m.blank]

/-- The far-end summary of STATUS, with the pending order at the mast end (R117). -/
def summaryOfTruck (m : Steering) (arrival : Count) : List Field :=
  [.num 4 arrival.toNat, .num 1 (linkStateCode m.link), .num 2 m.generation.toNat, stampField m.stamp,
   .uncoded (.posture m.stormOn), .uncoded (.supply m.deadBand)] ++
  optionalItem 8 (m.order.map fun o => [.num 4 o.epoch.toNat, stampField o.stamp])

/-- The control channel group of STATUS (R117). -/
def statusChannel (s : State) : List Field :=
  [.num 2 (cycleNumber s.params.c s.count).toNat, .num 1 s.chan.missCount, .num 1 s.params.missLimit,
   markField s.chan.silent] ++
  (match s.role with
    | .truck => optionalItem 24 (s.chan.fromMast.map fun m => summaryOfMast m.1 m.2)
    | .mast => optionalItem 22 (s.chan.fromTruck.map fun m => summaryOfTruck m.1 m.2))

/-- The far end's supply state in the latest report: in DEAD_BAND or not (R93). -/
def farSupply (s : State) : Option Bool :=
  match s.role with
  | .mast => s.chan.fromTruck.map fun m => m.1.deadBand
  | .truck => s.chan.fromMast.map fun m => m.1.deadBand

/-- The protection group of STATUS (R194). The far end's supply state is an item that is absent while no far-end report is
held (assumption log 53). -/
def statusProtection (s : State) : List Field :=
  [.uncoded (.supply (decide (s.prot.supply = .deadBand)))] ++
  optionalItem 1 ((farSupply s).map fun b => [.uncoded (.supply b)]) ++
  [.num 1 s.prot.stormLevel, .uncoded (.posture s.prot.stormOn)]

/-- The planner group of STATUS (R194). -/
def statusPlanner (p : Planner) : List Field :=
  optionalItem 4 (p.current.map fun x => [stampField x.stamp]) ++
  optionalItem 4 (p.next.map fun x => [stampField x.stamp]) ++
  optionalItem 8 (p.run.map fun r => [stampField r.stamp, .num 4 r.stop.toNat])

/-- The items of STATUS; a group that applies to the other role is carried empty (R194). The committed generation (R7)
stands before the stamp in force (assumption log 49). No lane item is carried, as R194 lists none (R69; assumption log 52). -/
def statusFields (s : State) : List Field :=
  [.uncoded (.role s.role), .num 1 (resetCauseCode s.host.cause), .num 4 s.count.toNat, .num 1 s.params.c,
   .num 2 s.params.lead] ++
  statusLink s ++
  [.num 2 s.table.generation.toNat, stampField s.orders.stamp, markField (shownBlank s)] ++
  optionalItem 4 ((shownReady s).map fun r => [stampField r]) ++
  (match s.role with
    | .truck => statusTruckOrders s.orders ++ statusCommit s.orders ++ statusSync s
    | .mast => statusMastOrders s.orders) ++
  statusChannel s ++ statusProtection s ++ statusPlanner s.planner

end Sys2Proof.Machine
end

