-- ==== Sys2Proof/Machine/Circuits.lean ====
section
/-! DEFINITION. The requests of the circuit table (chapter 1): READ CIRCUIT, the three staging requests, READ CHANGES and
DISCARD CHANGES. -/

namespace Sys2Proof.Machine

open Sys2Proof

/-- READ CIRCUIT of a number (R15). -/
def readCircuit (n : Nat) (s : State) : State :=
  match circuitOf n with
  | some n => respond 0x10 .ok (circuitFields s n) s
  | none => respond 0x10 .badField [] s

/-- READ CIRCUIT (R15). -/
def execReadCircuit (body : List Byte) (s : State) : Host.Outcome State Fault Refusal :=
  request 0x10 1 body s fun s => readCircuit (byteAt body 0).toNat s

/-! ### Staging (R10) -/

/-- The OK answer of a staging request: the number, the kind of edit now held for it or NONE, its position where one is
held, and the length of the change set (R10). -/
def stagedFields (es : List Edit) (n : Fin 64) : List Field :=
  let held := heldEdit es n
  [.num 1 n.val, .num 1 ((held.map editCode).getD 0)] ++ optionalItem 1 (held.map fun _ => [.num 1 (editPosition es n)]) ++
    [.num 1 es.length]

/-- A staging request whose edit is given, or none where a field is out of range, by the tests of R10 in their order. -/
def stage (code : Byte) (edit : Option Edit) (s : State) : State :=
  if s.role ≠ .truck then respond code .notRole [] s
  else if s.orders.commit.isSome then respond code .busy [] s
  else if frozen s then respond code .frozen [] s
  else
    match edit with
    | none => respond code .badField [] s
    | some e =>
      match stageEdit (recordsOf s.table.slots) s.changes e with
      | .error refusal => respond code refusal [] s
      | .ok es => respond code .ok (stagedFields es (editNumber e)) { s with changes := es }

/-- STAGE ADD (R10). -/
def execStageAdd (body : List Byte) (s : State) : Host.Outcome State Fault Refusal :=
  request 0x11 16 body s fun s => stage 0x11 ((recordOf body).map .add) s

/-- STAGE MODIFY (R10). -/
def execStageModify (body : List Byte) (s : State) : Host.Outcome State Fault Refusal :=
  request 0x12 16 body s fun s => stage 0x12 ((recordOf body).map .modify) s

/-- STAGE RETIRE (R2, R10). -/
def execStageRetire (body : List Byte) (s : State) : Host.Outcome State Fault Refusal :=
  request 0x13 1 body s fun s => stage 0x13 ((circuitOf (byteAt body 0).toNat).map .retire) s

/-! ### READ CHANGES and DISCARD CHANGES (R13, R14, R19) -/

/-- READ CHANGES of a position at the truck end, or of an index at the mast end (R14, R19). -/
def readChanges (i : Nat) (s : State) : State :=
  let answer := match s.role with
    | .truck => changesAnswer s i
    | .mast => stageAnswer s i
  respond 0x14 answer.1 answer.2 s

/-- READ CHANGES (R14, R19). -/
def execReadChanges (body : List Byte) (s : State) : Host.Outcome State Fault Refusal :=
  request 0x14 1 body s fun s => readChanges (byteAt body 0).toNat s

/-- DISCARD CHANGES by the commit procedure state (R13, R158). -/
def discardChanges (s : State) : State :=
  if s.role ≠ .truck then respond 0x15 .notRole [] s
  else if commitOrdered s then respond 0x15 .busy [] s
  else respond 0x15 .ok [] (abandonCommit { s with changes := [] })

/-- DISCARD CHANGES (R13). -/
def execDiscardChanges (body : List Byte) (s : State) : Host.Outcome State Fault Refusal :=
  request 0x15 0 body s discardChanges

end Sys2Proof.Machine
end

