-- ==== Sys2Proof/Machine/Commits.lean ====
section
/-! DEFINITION. COMMIT and TRIGGER, and the events of orders, planning runs and full syncs (chapters 2 and 7). -/

namespace Sys2Proof.Machine

open Sys2Proof

/-- The first test of R151 that fails. -/
def commitRefusal (code : Nat) (s : State) : Option AnswerCode :=
  if s.role ≠ .truck then some .notRole
  else if 15 < code then some .badField
  else if s.orders.commit.isSome || s.orders.fullSync.isSome then some .busy
  else if s.link.state ≠ .carrying then some .noLink
  else if frozen s then some .frozen
  else if s.changes = [] then some .nothingStaged
  else none

/-- The commit that a COMMIT starts: TRANSFERRING with an unopened transfer of the change set (R151). -/
def newCommit (code : Nat) (s : State) : CommitJob :=
  ⟨.transferring false, code, successor s.table.generation, s.changes.length, Transfer.fresh⟩

/-- COMMIT with a trigger code (R151). -/
def startCommit (code : Nat) (s : State) : State :=
  match commitRefusal code s with
  | some refusal => respond 0x16 refusal [] s
  | none =>
    respond 0x16 .ok [.num 2 (successor s.table.generation).toNat, .num 1 s.changes.length, .num 1 code]
      { s with orders := { s.orders with commit := some (newCommit code s) } }

/-- COMMIT (R151). -/
def execCommit (body : List Byte) (s : State) : Host.Outcome State Fault Refusal :=
  request 0x16 1 body s fun s => startCommit (byteAt body 0).toNat s

/-- A commit after a TRIGGER: an ARMED, untriggered one with the same code, not 0, is triggered with the requested epoch
(R155). -/
def triggered (code : Nat) (epoch : Count) (j : CommitJob) : CommitJob :=
  if j.phase = .armed none ∧ j.code = code ∧ code ≠ 0 then { j with phase := .armed (some epoch) } else j

/-- TRIGGER with a code and a requested epoch; at the mast end it changes nothing (R155). -/
def triggerCommit (code : Nat) (epoch : Count) (s : State) : State :=
  if s.role = .truck then
    { s with orders := { s.orders with commit := s.orders.commit.map (triggered code epoch) } }
  else s

/-- TRIGGER (R155, R182). It has no answer; a frame of another length is discarded with BAD_REQUEST (R181). -/
def execTrigger (body : List Byte) (s : State) : Host.Outcome State Fault Refusal :=
  running s fun s =>
    if body.length = 5 then triggerCommit (byteAt body 0).toNat (BitVec.ofNat 32 (numAt body 1 4)) s
    else raise .badRequest s

/-- The judgement whether to issue an order (R140). -/
def execOrderIssue (s : State) : Host.Outcome State Fault Refusal := running s judgeIssue

/-- The end of a planning run, where one is due (R42, R172). -/
def execPlanningRunEnd (s : State) : Host.Outcome State Fault Refusal := running s judgeRunEnd

/-- The start of a resync full sync, where it is due (R159). -/
def execFullSync (s : State) : Host.Outcome State Fault Refusal := running s judgeFullSync

/-- The truck end takes its pending order, where its epoch is reached (R143, R144). -/
def execOrderTakeTruck (s : State) : Host.Outcome State Fault Refusal := running s judgeTakeTruck

/-- The mast end takes its heard order, where its epoch is reached (R147). -/
def execOrderTakeMast (s : State) : Host.Outcome State Fault Refusal := running s judgeTakeMast

/-- An ORDERED commit whose order was withdrawn is completed, where its epoch is reached (R131, R157). -/
def execOrderedCommitCompletion (s : State) : Host.Outcome State Fault Refusal := running s judgeCompletion

end Sys2Proof.Machine
end

