-- ==== Sys2Proof/Machine/Counters.lean ====
section
/-! DEFINITION. READ COUNTERS in its four forms (R178, R186). -/

namespace Sys2Proof.Machine

open Sys2Proof

/-- A yes-or-no byte: 1 yes, 0 no, none for a value that is not listed (R200). -/
def markOf : Nat → Option Bool
  | 0 => some false
  | 1 => some true
  | _ => none

/-- The counters of a LIVE slot set to zero (R178). A FREE slot holds none. -/
def clearCircuit (n : Fin 64) (s : State) : State :=
  { s with table := { s.table with
      slots := s.table.slots.map fun x =>
        if x.record.number = n then { x with counters := CircuitCounters.zero } else x } }

/-- READ COUNTERS of a circuit number with a clear option (R178). -/
def readCircuitCounters (number clear : Nat) (s : State) : State :=
  match circuitOf number, markOf clear with
  | some n, some yes => respond 0x21 .ok (circuitCountersFields s n) (if yes then clearCircuit n s else s)
  | _, _ => respond 0x21 .badField [] s

/-- READ COUNTERS with the circuit form (R178). A form byte that is none of the four is refused with BAD_FIELD (R186). -/
def execReadCountersCircuit (body : List Byte) (s : State) : Host.Outcome State Fault Refusal :=
  request 0x21 3 body s fun s =>
    if byteAt body 0 = 0 then readCircuitCounters (byteAt body 1).toNat (byteAt body 2).toNat s
    else respond 0x21 .badField [] s

/-- READ COUNTERS of the end: the clear option sets the stray-cell counter to zero (R178). The number is listed as 0
(R200): any other is out of range (assumption log 14). -/
def readEndCounters (number clear : Nat) (s : State) : State :=
  match number, markOf clear with
  | 0, some yes =>
    respond 0x21 .ok (endCountersFields s) (if yes then { s with service := { s.service with stray := 0 } } else s)
  | _, _ => respond 0x21 .badField [] s

/-- READ COUNTERS with the end form (R178). -/
def execReadCountersEnd (body : List Byte) (s : State) : Host.Outcome State Fault Refusal :=
  request 0x21 3 body s fun s =>
    if byteAt body 0 = 1 then readEndCounters (byteAt body 1).toNat (byteAt body 2).toNat s
    else respond 0x21 .badField [] s

/-- The four counters of a lane set to zero (R186). -/
def clearLane (l : Fin 4) (s : State) : State :=
  { s with lanes := s.lanes.set l { s.lanes.get l with counters := ⟨0, 0, 0, 0⟩ } }

/-- READ COUNTERS of a lane number with a clear option (R186). -/
def readLaneCounters (number clear : Nat) (s : State) : State :=
  match laneOf number, markOf clear with
  | some l, some yes =>
    respond 0x21 .ok (laneCounterFields (s.lanes.get l).counters) (if yes then clearLane l s else s)
  | _, _ => respond 0x21 .badField [] s

/-- READ COUNTERS with the lane form (R186). -/
def execReadCountersLane (body : List Byte) (s : State) : Host.Outcome State Fault Refusal :=
  request 0x21 3 body s fun s =>
    if byteAt body 0 = 2 then readLaneCounters (byteAt body 1).toNat (byteAt body 2).toNat s
    else respond 0x21 .badField [] s

/-- The eight protection counts set to zero; refractory conditions, holds and timers stay (R81, R186). -/
def clearGuards (s : State) : State :=
  { s with prot := { s.prot with
      inputs := s.prot.inputs.map fun i => { i with count := 0 }
      guards := s.prot.guards.map fun g => { g with faults := 0 } } }

/-- READ COUNTERS of the protection block (R186). The number is listed as 0, as for the end form. -/
def readGuardCounters (number clear : Nat) (s : State) : State :=
  match number, markOf clear with
  | 0, some yes => respond 0x21 .ok (guardCountersFields s) (if yes then clearGuards s else s)
  | _, _ => respond 0x21 .badField [] s

/-- READ COUNTERS with the protection form (R186). -/
def execReadCountersProtection (body : List Byte) (s : State) : Host.Outcome State Fault Refusal :=
  request 0x21 3 body s fun s =>
    if byteAt body 0 = 3 then readGuardCounters (byteAt body 1).toNat (byteAt body 2).toNat s
    else respond 0x21 .badField [] s

end Sys2Proof.Machine
end

