-- ==== Sys2Proof/Machine/Guards.lean ====
section
/-! DEFINITION. The commands of surge and supply protection (chapter 4). -/

namespace Sys2Proof.Machine

open Sys2Proof

/-! ### PROTECTION SETUP (R189) -/

/-- The presence mark of a parameter, by its bit in the two presence bytes (R200). -/
def presentGuard (body : List Byte) (bit : Nat) : Bool := (numAt body 0 2).testBit bit

/-- The autoretry value of its byte: any value but 0 becomes on (R189, R200). -/
def autoretryOf (b : Byte) : Bool := decide (b ≠ 0)

/-- A set of lanes after a write: unchanged when its mark is absent (R189). -/
def writtenLanes (present : Bool) (b : Byte) (old : PerLane Bool) : PerLane Bool :=
  if present then lanesOfByte b else old

/-- The protection parameters after the write (R189). -/
def writtenGuards (body : List Byte) (g : GuardConfig) : GuardConfig where
  strikeHold := written (presentGuard body 15) 1 255 (numAt body 2 1) g.strikeHold
  stormDecay := written (presentGuard body 14) 1 255 (numAt body 3 1) g.stormDecay
  driverRetry := written (presentGuard body 13) 5 255 (numAt body 4 1) g.driverRetry
  autoretry := if presentGuard body 12 then autoretryOf (byteAt body 5) else g.autoretry
  currentLimit := written (presentGuard body 11) 0 3 (numAt body 6 1) g.currentLimit
  blanking := written (presentGuard body 10) 0 3 (numAt body 7 1) g.blanking
  masks := PerLane.ofFn fun i =>
    writtenLanes (presentGuard body (9 - i.val)) (byteAt body (8 + i.val)) (g.masks.get i)
  isolate := writtenLanes (presentGuard body 5) (byteAt body 12) g.isolate

/-- A group mask that names a lane above 3 (R189, R200). -/
def maskClamped (present : Bool) (b : Byte) : Bool := present && decide (16 ≤ b.toNat)

/-- Some present value was changed by clamping (R189). -/
def guardsClamped (body : List Byte) : Bool :=
  wasClamped (presentGuard body 15) 1 255 (numAt body 2 1) ||
  wasClamped (presentGuard body 14) 1 255 (numAt body 3 1) ||
  wasClamped (presentGuard body 13) 5 255 (numAt body 4 1) ||
  (presentGuard body 12 && decide (1 < numAt body 5 1)) ||
  wasClamped (presentGuard body 11) 0 3 (numAt body 6 1) ||
  wasClamped (presentGuard body 10) 0 3 (numAt body 7 1) ||
  laneNumbers.any fun i => maskClamped (presentGuard body (9 - i.val)) (byteAt body (8 + i.val))

/-- PROTECTION SETUP: the present values are written together, and every value in force is answered (R189). -/
def protectionSetup (body : List Byte) (s : State) : State :=
  let new := writtenGuards body s.prot.config
  respond 0x07 (if guardsClamped body then .clamped else .ok) (guardConfigFields new) (writeGuardConfig new s)

/-- PROTECTION SETUP (R189). -/
def execProtectionSetup (body : List Byte) (s : State) : Host.Outcome State Fault Refusal :=
  request 0x07 13 body s fun s => protectionSetup body s

/-! ### RELEASE LANE (R92) -/

/-- RELEASE LANE of a lane (R92). -/
def releaseLane (l : Fin 4) (s : State) : State :=
  if (guardOf s l).causes.driver then
    let t := releaseDriver l s
    respond 0x22 .ok [.num 1 (causesCode (guardOf t l).causes)] t
  else respond 0x22 .badState [] s

/-- RELEASE LANE (R92). -/
def execReleaseLane (body : List Byte) (s : State) : Host.Outcome State Fault Refusal :=
  request 0x22 1 body s fun s =>
    match laneOf (byteAt body 0).toNat with
    | some l => releaseLane l s
    | none => respond 0x22 .badField [] s

/-! ### Strikes and storm (R78 to R85) -/

/-- A strike pulse has lasted 2 us (R78, R79). -/
def execCountedStrike (input : Fin 4) (s : State) : Host.Outcome State Fault Refusal := running s (countStrike input)

/-- The refractory of a strike input ends (R78). -/
def execRefractoryEnd (input : Fin 4) (s : State) : Host.Outcome State Fault Refusal := running s (endRefractory input)

/-- A strike hold timer expires (R80). -/
def execStrikeHoldExpiry (lane : Fin 4) (s : State) : Host.Outcome State Fault Refusal := running s (expireStrikeHold lane)

/-- The storm decay timer expires (R84). -/
def execStormDecayExpiry (s : State) : Host.Outcome State Fault Refusal := running s expireStormDecay

/-! ### Drivers (R89 to R91) -/

/-- A driver reports an overcurrent (R89). -/
def execOvercurrent (lane : Fin 4) (s : State) : Host.Outcome State Fault Refusal := running s (reportOvercurrent lane)

/-- An overcurrent ends (R89). -/
def execOvercurrentEnd (lane : Fin 4) (s : State) : Host.Outcome State Fault Refusal := running s (endOvercurrent lane)

/-- A blanking timer expires (R89, R90). -/
def execBlankingExpiry (lane : Fin 4) (s : State) : Host.Outcome State Fault Refusal := running s (expireBlanking lane)

/-- A driver retry timer expires (R90). -/
def execDriverRetryExpiry (lane : Fin 4) (s : State) : Host.Outcome State Fault Refusal := running s (expireRetry lane)

/-- A thermal trip (R91). -/
def execThermalTrip (lane : Fin 4) (s : State) : Host.Outcome State Fault Refusal := running s (tripThermal lane)

/-- A thermal release (R91). -/
def execThermalRelease (lane : Fin 4) (s : State) : Host.Outcome State Fault Refusal :=
  running s (removeCause .thermal lane)

/-! ### Supply (R93) -/

/-- The supply falls below the working level (R93). -/
def execSupplyBelowWorkingLevel (s : State) : Host.Outcome State Fault Refusal := running s (setSupply .deadBand)

/-- The supply rises above the working level plus hysteresis (R93). -/
def execSupplyAboveHysteresis (s : State) : Host.Outcome State Fault Refusal := running s (setSupply .normal)

end Sys2Proof.Machine
end

