-- ==== Sys2Proof/Machine/HostPort.lean ====
section
/-! DEFINITION. The requests of the host port and event unit (chapter 9): IDENTIFY, STATUS, EVENTS, EVENT MASK, CONFIGURE
and FETCH, and the frames that are discarded or that name no request (R181). -/

namespace Sys2Proof.Machine

open Sys2Proof

/-- IDENTIFY, with the levels of the address pins at the start of its transaction (R180, R193). -/
def execIdentify (body : Transaction) (s : State) : Host.Outcome State Fault Refusal :=
  request 0x01 0 body.bytes s fun s => respond 0x01 .ok (identityFields body.pins s) s

/-- STATUS (R194). -/
def execStatus (body : List Byte) (s : State) : Host.Outcome State Fault Refusal :=
  request 0x02 0 body s fun s => respond 0x02 .ok (statusFields s) s

/-- A set of flags in two bytes, in the bit order of R200. -/
def flagsOf (body : List Byte) : BitVec 16 := BitVec.ofNat 16 (numAt body 0 2)

/-- The flags reported are answered, and those in the clear set are cleared (R191). -/
def clearEvents (clear : BitVec 16) (s : State) : State :=
  let t := respond 0x03 .ok [.num 2 s.host.flags.toNat] s
  { t with host := { t.host with flags := s.host.flags &&& ~~~clear } }

/-- EVENTS (R191). -/
def execEvents (body : List Byte) (s : State) : Host.Outcome State Fault Refusal :=
  request 0x03 2 body s fun s => clearEvents (flagsOf body) s

/-- All sixteen marks are written, and the mask in force is answered (R192). -/
def writeMask (mask : BitVec 16) (s : State) : State :=
  respond 0x04 .ok [.num 2 mask.toNat] { s with host := { s.host with mask := mask } }

/-- EVENT MASK (R192). -/
def execEventMask (body : List Byte) (s : State) : Host.Outcome State Fault Refusal :=
  request 0x04 2 body s fun s => writeMask (flagsOf body) s

/-! ### CONFIGURE (R187) -/

/-- The presence mark of a parameter: bit 7 for C down to bit 0 for readmit_hold (R200). -/
def presentParam (body : List Byte) (bit : Nat) : Bool := (byteAt body 0).getLsbD bit

/-- The parameters after the write (R187). -/
def writtenParams (body : List Byte) (p : Params) : Params where
  c := written (presentParam body 7) 2 64 (numAt body 1 1) p.c
  lead := written (presentParam body 6) 24 4096 (numAt body 2 2) p.lead
  missLimit := written (presentParam body 5) 1 15 (numAt body 4 1) p.missLimit
  holdoverBase := written (presentParam body 4) 1 255 (numAt body 5 1) p.holdoverBase
  holdoverScale := written (presentParam body 3) 0 7 (numAt body 6 1) p.holdoverScale
  callWindow := written (presentParam body 2) 8 2000 (numAt body 7 2) p.callWindow
  recallInterval := written (presentParam body 1) 0 255 (numAt body 9 1) p.recallInterval
  readmitHold := written (presentParam body 0) 8 65535 (numAt body 10 2) p.readmitHold

/-- Some present value was replaced (R187). -/
def paramsClamped (body : List Byte) : Bool :=
  wasClamped (presentParam body 7) 2 64 (numAt body 1 1) ||
  wasClamped (presentParam body 6) 24 4096 (numAt body 2 2) ||
  wasClamped (presentParam body 5) 1 15 (numAt body 4 1) ||
  wasClamped (presentParam body 4) 1 255 (numAt body 5 1) ||
  wasClamped (presentParam body 3) 0 7 (numAt body 6 1) ||
  wasClamped (presentParam body 2) 8 2000 (numAt body 7 2) ||
  wasClamped (presentParam body 1) 0 255 (numAt body 9 1) ||
  wasClamped (presentParam body 0) 8 65535 (numAt body 10 2)

/-- C or the lead is present while the link is not STANDBY (R187). -/
def timingRefused (body : List Byte) (s : State) : Bool :=
  (presentParam body 7 || presentParam body 6) && decide (s.link.state ≠ .standby)

/-- The present parameters are written together. Cycles are marked by the C in force from the write (R100). -/
def writeParams (new : Params) (s : State) : State := { setTiming new.c new.lead s with params := new }

/-- CONFIGURE judged by R187. -/
def configure (body : List Byte) (s : State) : State :=
  if timingRefused body s then respond 0x05 .badState (paramFields s.params) s
  else
    let new := writtenParams body s.params
    respond 0x05 (if paramsClamped body then .clamped else .ok) (paramFields new) (writeParams new s)

/-- CONFIGURE (R187). -/
def execConfigure (body : List Byte) (s : State) : Host.Outcome State Fault Refusal :=
  request 0x05 12 body s fun s => configure body s

/-! ### FETCH (R183) -/

/-- The commit-in-progress mark: the truck end's commit procedure is not IDLE (R184). -/
def commitInProgress (s : State) : Bool := decide (s.role = .truck) && s.orders.commit.isSome

/-- The answer frame that a FETCH shifts out now: the held answer, or NONE with an empty body, with a fresh status byte
(R183, R184). A held NONE of READ PLAN is a held answer, so it bears the answer-ready mark (assumption log 47). -/
def fetchFrame (s : State) : List Byte :=
  answerLine (statusByte (attention s) s.host.held.isSome (commitInProgress s)) (s.host.held.getD ⟨0x7E, .none_, []⟩)

/-- So many bytes are clocked: zeros after the check; the answer is consumed once its check byte is shifted out
(R183). -/
def shiftOut (clocked : Nat) (s : State) : State :=
  let frame := fetchFrame s
  { s with host := { s.host with
      shifted := padTo clocked frame
      held := if frame.length ≤ clocked then none else s.host.held } }

/-- FETCH: its body is ignored (R183, R200). -/
def execFetch (_body : List Byte) (clocked : Nat) (s : State) : Host.Outcome State Fault Refusal :=
  running s (shiftOut clocked)

/-! ### Frames without a request (R181) -/

/-- The bytes of a transaction hold a frame for this part that is discarded (R180, R181). -/
def discarded (t : Transaction) : Bool :=
  match decodeFrame t.pins t.bytes with
  | some (.badRequest _) => true
  | _ => false

/-- A transaction whose frame is discarded: BAD_REQUEST is set, and nothing else changes (R181). Bytes that hold no
discarded frame for this part have no effect: which part a frame is for is judged by the levels of the address pins at the
start of the transaction (R180). -/
def execBadRequest (bytes : Transaction) (s : State) : Host.Outcome State Fault Refusal :=
  running s fun s => raiseIf (discarded bytes) .badRequest s

/-- A frame with an unknown request code is answered BAD_CODE (R181). A code that R200 lists has no such frame. -/
def execBadCode (code : Byte) (s : State) : Host.Outcome State Fault Refusal :=
  running s fun s => if requestCodes.contains code then s else respond code .badCode [] s

end Sys2Proof.Machine
end

