-- ==== Sys2Proof/Machine/Lanes.lean ====
section
/-! DEFINITION. The commands of the lanes (chapter 3): LANE SETUP, READ LANE, the evaluations that the table names, and the
GRADE input. -/

namespace Sys2Proof.Machine

open Sys2Proof

/-! ### LANE SETUP (R50) -/

/-- The lane after a LANE SETUP that is taken (R50): an OFF lane takes the kind, and enters DARK or QUARANTINED when it
is enabled; any other lane is disabled, enters OFF and takes the kind. -/
def setupLane (kind : Kind) (enable free : Bool) (lane : Lane) : Lane :=
  if lane.state = .off then
    { lane with enable := enable, kind := kind,
                state := if enable then (if free then .dark else .quarantined) else .off }
  else { lane.switchedOff with enable := false, kind := kind }

/-- The enable, kind and state of a lane (R50). -/
def setupFields (s : State) (l : Fin 4) : List Field :=
  let lane := s.lanes.get l
  [markField lane.enable, .num 1 (kindCode lane.kind), .num 1 (laneStateCode lane.state)]

/-- LANE SETUP of a lane, kind and enable value, judged against the lane's state (R50). -/
def laneSetup (l : Fin 4) (kind : Kind) (enable : Bool) (s : State) : State :=
  let lane := s.lanes.get l
  if lane.state ≠ .off ∧ enable = true then respond 0x06 .badState (setupFields s l) s
  else
    let t := changeLane l (setupLane kind enable (noCauses (guardOf s l).causes) lane) s
    respond 0x06 .ok (setupFields t l) t

/-- An enable byte: 1 yes, 0 no (R200). -/
def enableOf : Nat → Option Bool
  | 0 => some false
  | 1 => some true
  | _ => none

/-- LANE SETUP with its fields tested (R50). -/
def laneSetupRequest (body : List Byte) (s : State) : State :=
  match laneOf (byteAt body 0).toNat, kindOf (byteAt body 1).toNat, enableOf (byteAt body 2).toNat with
  | some l, some kind, some enable => laneSetup l kind enable s
  | _, _, _ => respond 0x06 .badField [] s

/-- LANE SETUP (R50). -/
def execLaneSetup (body : List Byte) (s : State) : Host.Outcome State Fault Refusal :=
  request 0x06 3 body s fun s => laneSetupRequest body s

/-! ### READ LANE (R73) -/

/-- READ LANE of a lane number (R73). -/
def readLane (n : Nat) (s : State) : State :=
  match laneOf n with
  | some l => respond 0x20 .ok (laneFields s l) s
  | none => respond 0x20 .badField [] s

/-- READ LANE (R73). -/
def execReadLane (body : List Byte) (s : State) : Host.Outcome State Fault Refusal :=
  request 0x20 1 body s fun s => readLane (byteAt body 0).toNat s

/-! ### Evaluations that the table names (R61, R62, R67) -/

/-- The lane goes from ALIGNING to an aligned state (R61). -/
def aligns (before after : Lane) : Bool := decide (before.state = .aligning) && alignedState after.state

/-- The evaluation in which an ALIGNING lane is aligned (R61). -/
def execAlignment (lane : Fin 4) (input : LaneInput) (s : State) : Host.Outcome State Fault Refusal :=
  running s (evaluateWhen aligns lane input)

/-- The lane leaves its aligned state for ALIGNING or DARK (R62). -/
def losesAlignment (before after : Lane) : Bool := alignedState before.state && !alignedState after.state

/-- The evaluation in which a lane loses alignment (R62). -/
def execAlignmentLoss (lane : Fin 4) (input : LaneInput) (s : State) : Host.Outcome State Fault Refusal :=
  running s (evaluateWhen losesAlignment lane input)

/-- The lane goes from ADMITTING to IN_SERVICE (R67). -/
def readmits (before after : Lane) : Bool :=
  decide (before.state = .admitting) && decide (after.state = .inService)

/-- The evaluation in which an ADMITTING lane's hold count reaches its target (R67). -/
def execReadmissionHoldComplete (lane : Fin 4) (input : LaneInput) (s : State) : Host.Outcome State Fault Refusal :=
  running s (evaluateWhen readmits lane input)

/-! ### The GRADE input (R49) -/

/-- The GRADE input takes a value; GRADE is set when the effective grade of a lane that is not OFF changes (R49). -/
def setGrade (l : Fin 4) (grade : Fin 4) (s : State) : State :=
  let lane := s.lanes.get l
  let new := { lane with gradeInput := grade }
  raiseIf (decide (lane.state ≠ .off) && decide (effectiveGrade new ≠ effectiveGrade lane)) .grade
    { s with lanes := s.lanes.set l new }

/-- The GRADE input changes (R49). The level stands at the pin also while the part is held in reset. -/
def execGradeChange (lane : Fin 4) (grade : Fin 4) (s : State) : Host.Outcome State Fault Refusal :=
  .next (setGrade lane grade s)

end Sys2Proof.Machine
end

