-- ==== Sys2Proof/Machine/Links.lean ====
section
/-! DEFINITION. The commands of the link and of its control channel (chapters 5 and 6). -/

namespace Sys2Proof.Machine

open Sys2Proof

/-- LINK START in STANDBY: the link calls, and the superframe count runs (R53, R120); refused in any other state. -/
def linkStart (s : State) : State :=
  if s.link.state = .standby then respond 0x30 .ok [] { moveToCalling s with counting := true }
  else respond 0x30 .badState [] s

/-- LINK START (R120). -/
def execLinkStart (body : List Byte) (s : State) : Host.Outcome State Fault Refusal := request 0x30 0 body s linkStart

/-- LINK STOP: the link moves to STANDBY from any other state (R132). -/
def linkStop (s : State) : State :=
  respond 0x31 .ok [] (if s.link.state = .standby then s else moveToStandby s)

/-- LINK STOP (R132). -/
def execLinkStop (body : List Byte) (s : State) : Host.Outcome State Fault Refusal := request 0x31 0 body s linkStop

/-- The chosen copy of this superframe is a steering message whose first half came in the superframe before (R105,
R107). -/
def execSteeringMessage (message : Steering) (s : State) : Host.Outcome State Fault Refusal :=
  running s fun s => chooseSteering message (s.count - 1) s

/-- The chosen copy of this superframe is a mast reply (R105, R110). -/
def execMastReply (message : Reply) (s : State) : Host.Outcome State Fault Refusal := running s (chooseReply message)

/-- The end of a control cycle, in a superframe that begins one (R112, R113, R101). -/
def execControlCycleEnd (s : State) : Host.Outcome State Fault Refusal := running s judgeCycleEnd

/-- Holdover expires, at a cycle end at which its count has reached the limit (R128). -/
def execHoldoverExpiry (s : State) : Host.Outcome State Fault Refusal := running s judgeHoldover

/-- A call window expires (R121, R123). -/
def execCallWindowExpiry (s : State) : Host.Outcome State Fault Refusal := running s expireWindow

/-- The gap timer expires (R121). -/
def execGapExpiry (s : State) : Host.Outcome State Fault Refusal := running s expireGap

/-- The recall wait expires (R121). -/
def execRecallWaitExpiry (s : State) : Host.Outcome State Fault Refusal := running s expireRecall

end Sys2Proof.Machine
end

