-- ==== Sys2Proof/Machine/Plans.lean ====
section
/-! DEFINITION. READ PLAN in its two forms (R47, R48). -/

namespace Sys2Proof.Machine

open Sys2Proof

/-- The record that a selector byte names: NEXT or not; none for a value that is not listed (R200). -/
def selectorOf : Nat → Option Bool
  | 0 => some false
  | 1 => some true
  | _ => none

/-- The direction of a direction byte (R200). -/
def directionOf : Nat → Option Direction
  | 0 => some .down
  | 1 => some .up
  | _ => none

/-- READ PLAN with the circuit form, of a selector and a number (R47). A NONE carries the code 18 hex of this request, and
7E hex stands for the NONE of FETCH alone (assumption log 47). -/
def readPlanCircuit (selector number : Nat) (s : State) : State :=
  match selectorOf selector, circuitOf number with
  | some next, some n => respond 0x18 (planCircuitAnswer s next n).1 (planCircuitAnswer s next n).2 s
  | _, _ => respond 0x18 .badField [] s

/-- READ PLAN with the circuit form (R47). A form byte that is none of those listed is a field out of range (R200). -/
def execReadPlanCircuit (body : List Byte) (s : State) : Host.Outcome State Fault Refusal :=
  request 0x18 3 body s fun s =>
    if byteAt body 0 = 0 then readPlanCircuit (byteAt body 1).toNat (byteAt body 2).toNat s
    else respond 0x18 .badField [] s

/-- READ PLAN with the lane form, of a selector and a direction (R48). A NONE carries the code 18 hex of this request
(assumption log 47). -/
def readPlanLane (selector direction : Nat) (s : State) : State :=
  match selectorOf selector, directionOf direction with
  | some next, some d => respond 0x18 (planLaneAnswer s next d).1 (planLaneAnswer s next d).2 s
  | _, _ => respond 0x18 .badField [] s

/-- READ PLAN with the lane form (R48). -/
def execReadPlanLane (body : List Byte) (s : State) : Host.Outcome State Fault Refusal :=
  request 0x18 3 body s fun s =>
    if byteAt body 0 = 1 then readPlanLane (byteAt body 1).toNat (byteAt body 2).toNat s
    else respond 0x18 .badField [] s

end Sys2Proof.Machine
end

