-- ==== Sys2Proof/Machine/Resets.lean ====
section
/-! DEFINITION. The resets: SOFT RESET (R196), the three hard resets and their end (R195, R197). -/

namespace Sys2Proof.Machine

open Sys2Proof

/-! ### SOFT RESET (R196) -/

/-- A record slot after a SOFT reset: the record is kept, its counters are zero and its queue is empty (R25, R179). -/
def Slot.softReset (x : Slot) : Slot := ⟨x.record, CircuitCounters.zero, []⟩

/-- A lane after a SOFT reset (R76). The PHY inputs are the board's. -/
def Lane.softReset (lane : Lane) : Lane :=
  ⟨lane.enable, lane.kind, lane.signal, lane.gradeInput, if lane.enable then .dark else .off, 0, 0, 0, 0, 0,
   ⟨0, 0, 0, 0⟩, false⟩

/-- The host port and event unit after a SOFT reset, before the request is answered (R196, R197). -/
def HostPort.softReset (h : HostPort) : HostPort := { h with held := none, flags := 0, cause := .soft }

/-- Every block at its SOFT reset values (R25, R46, R76, R98, R118, R136, R160, R179, R197). -/
def softReset (s : State) : State :=
  { s with
    count := 0
    counting := decide (s.role = .mast)
    table := ⟨s.table.slots.map Slot.softReset, s.table.generation⟩
    changes := []
    stage := StageArea.empty
    planner := Planner.empty
    lanes := s.lanes.map Lane.softReset
    handed := PerLane.all none
    sent := PerLane.all none
    prot := Protection.cleared s.prot.supply s.prot.config
    chan := Channel.cleared
    link := Link.cleared
    orders := Orders.cleared
    service := Service.cleared
    host := s.host.softReset }

/-- SOFT RESET: its OK answer is formed after the reset (R196). -/
def execSoftReset (body : List Byte) (s : State) : Host.Outcome State Fault Refusal :=
  request 0x3F 0 body s fun s => respond 0x3F .ok [] (softReset s)

/-! ### Hard resets (R195, R197) -/

/-- Every block at its hard reset values while some conditions hold the part in reset (R24, R46, R75, R97, R118, R135,
R160, R179, R197). Role, reset cause and supply state are written at its end; the PHY inputs are the board's. -/
def hardReset (held : Resetting) (s : State) : State :=
  { State.reset with
    pending := s.pending
    role := s.role
    resetting := held
    lanes := s.lanes.map fun l => Lane.hardReset l.signal l.gradeInput
    prot := Protection.cleared s.prot.supply GuardConfig.default
    host := ⟨none, 0, 0, s.host.cause, []⟩ }

/-- A POWER_ON reset begins (R195). -/
def execPowerOnReset (s : State) : Host.Outcome State Fault Refusal :=
  .next (hardReset { s.resetting with powerOn := true } s)

/-- A PIN reset begins (R195). -/
def execPinReset (s : State) : Host.Outcome State Fault Refusal := .next (hardReset { s.resetting with pin := true } s)

/-- The supply falls below the reset level: a SUPPLY reset begins (R93, R96). -/
def execSupplyReset (s : State) : Host.Outcome State Fault Refusal :=
  .next (hardReset { s.resetting with supply := true } s)

/-- A condition holds the part in reset. -/
def Resetting.holds (r : Resetting) : HardCause → Bool
  | .powerOn => r.powerOn
  | .pin => r.pin
  | .supply => r.supply

/-- A condition no longer holds the part in reset. -/
def Resetting.without (r : Resetting) : HardCause → Resetting
  | .powerOn => { r with powerOn := false }
  | .pin => { r with pin := false }
  | .supply => { r with supply := false }

/-- The reset cause that the end of a condition records (R195). -/
def causeRecorded : HardCause → ResetCause
  | .powerOn => .powerOn
  | .pin => .pin
  | .supply => .supply

/-- The reset ends: the strap is sampled, the supply is read once, the cause is recorded, and the mast end's count starts
to advance (R53, R96, R193, R195). -/
def leaveReset (cause : HardCause) (strap : Role) (supplyHigh : Bool) (s : State) : State :=
  { s with
    role := strap
    counting := decide (strap = .mast)
    prot := { s.prot with supply := if supplyHigh then .normal else .deadBand }
    host := { s.host with cause := causeRecorded cause } }

/-- One condition of a hard reset ends; the part leaves reset with the last of them (R195). -/
def endCondition (cause : HardCause) (strap : Role) (supplyHigh : Bool) (s : State) : State :=
  let t := { s with resetting := s.resetting.without cause }
  if s.resetting.holds cause = false then s
  else if inReset t then t
  else leaveReset cause strap supplyHigh t

/-- One condition of a hard reset ends (R195). A condition that does not hold has no end. -/
def execEndOfHardReset (cause : HardCause) (strap : Role) (supplyHigh : Bool) (s : State) :
    Host.Outcome State Fault Refusal :=
  .next (endCondition cause strap supplyHigh s)

end Sys2Proof.Machine
end

