-- ==== Sys2Proof/Machine/Dispatch.lean ====
section
/-! DEFINITION. The effect of each command on everything but the queue: one arm for each row of the table. -/

namespace Sys2Proof.Machine

def exec (i : Instr) (s : State) : Host.Outcome State Fault Refusal :=
  match i with
  | .identify body => Sys2Proof.Machine.execIdentify body s
  | .status body => Sys2Proof.Machine.execStatus body s
  | .events body => Sys2Proof.Machine.execEvents body s
  | .eventMask body => Sys2Proof.Machine.execEventMask body s
  | .configure body => Sys2Proof.Machine.execConfigure body s
  | .laneSetup body => Sys2Proof.Machine.execLaneSetup body s
  | .protectionSetup body => Sys2Proof.Machine.execProtectionSetup body s
  | .readCircuit body => Sys2Proof.Machine.execReadCircuit body s
  | .stageAdd body => Sys2Proof.Machine.execStageAdd body s
  | .stageModify body => Sys2Proof.Machine.execStageModify body s
  | .stageRetire body => Sys2Proof.Machine.execStageRetire body s
  | .readChanges body => Sys2Proof.Machine.execReadChanges body s
  | .discardChanges body => Sys2Proof.Machine.execDiscardChanges body s
  | .commit body => Sys2Proof.Machine.execCommit body s
  | .trigger body => Sys2Proof.Machine.execTrigger body s
  | .readPlanCircuit body => Sys2Proof.Machine.execReadPlanCircuit body s
  | .readPlanLane body => Sys2Proof.Machine.execReadPlanLane body s
  | .readLane body => Sys2Proof.Machine.execReadLane body s
  | .readCountersCircuit body => Sys2Proof.Machine.execReadCountersCircuit body s
  | .readCountersEnd body => Sys2Proof.Machine.execReadCountersEnd body s
  | .readCountersLane body => Sys2Proof.Machine.execReadCountersLane body s
  | .readCountersProtection body => Sys2Proof.Machine.execReadCountersProtection body s
  | .releaseLane body => Sys2Proof.Machine.execReleaseLane body s
  | .linkStart body => Sys2Proof.Machine.execLinkStart body s
  | .linkStop body => Sys2Proof.Machine.execLinkStop body s
  | .softReset body => Sys2Proof.Machine.execSoftReset body s
  | .fetch body clocked => Sys2Proof.Machine.execFetch body clocked s
  | .badRequest bytes => Sys2Proof.Machine.execBadRequest bytes s
  | .badCode code => Sys2Proof.Machine.execBadCode code s
  | .powerOnReset => Sys2Proof.Machine.execPowerOnReset s
  | .pinReset => Sys2Proof.Machine.execPinReset s
  | .supplyReset => Sys2Proof.Machine.execSupplyReset s
  | .supplyBelowWorkingLevel => Sys2Proof.Machine.execSupplyBelowWorkingLevel s
  | .supplyAboveHysteresis => Sys2Proof.Machine.execSupplyAboveHysteresis s
  | .superframeBoundary inputs => Sys2Proof.Machine.execSuperframeBoundary inputs s
  | .alignment lane input => Sys2Proof.Machine.execAlignment lane input s
  | .alignmentLoss lane input => Sys2Proof.Machine.execAlignmentLoss lane input s
  | .readmissionHoldComplete lane input => Sys2Proof.Machine.execReadmissionHoldComplete lane input s
  | .gradeChange lane grade => Sys2Proof.Machine.execGradeChange lane grade s
  | .cellArrival port cell => Sys2Proof.Machine.execCellArrival port cell s
  | .countedStrike input => Sys2Proof.Machine.execCountedStrike input s
  | .refractoryEnd input => Sys2Proof.Machine.execRefractoryEnd input s
  | .strikeHoldExpiry lane => Sys2Proof.Machine.execStrikeHoldExpiry lane s
  | .stormDecayExpiry => Sys2Proof.Machine.execStormDecayExpiry s
  | .overcurrent lane => Sys2Proof.Machine.execOvercurrent lane s
  | .overcurrentEnd lane => Sys2Proof.Machine.execOvercurrentEnd lane s
  | .blankingExpiry lane => Sys2Proof.Machine.execBlankingExpiry lane s
  | .driverRetryExpiry lane => Sys2Proof.Machine.execDriverRetryExpiry lane s
  | .thermalTrip lane => Sys2Proof.Machine.execThermalTrip lane s
  | .thermalRelease lane => Sys2Proof.Machine.execThermalRelease lane s
  | .steeringMessage message => Sys2Proof.Machine.execSteeringMessage message s
  | .mastReply message => Sys2Proof.Machine.execMastReply message s
  | .controlCycleEnd => Sys2Proof.Machine.execControlCycleEnd s
  | .holdoverExpiry => Sys2Proof.Machine.execHoldoverExpiry s
  | .callWindowExpiry => Sys2Proof.Machine.execCallWindowExpiry s
  | .gapExpiry => Sys2Proof.Machine.execGapExpiry s
  | .recallWaitExpiry => Sys2Proof.Machine.execRecallWaitExpiry s
  | .orderIssue => Sys2Proof.Machine.execOrderIssue s
  | .planningRunEnd => Sys2Proof.Machine.execPlanningRunEnd s
  | .fullSync => Sys2Proof.Machine.execFullSync s
  | .orderTakeTruck => Sys2Proof.Machine.execOrderTakeTruck s
  | .orderTakeMast => Sys2Proof.Machine.execOrderTakeMast s
  | .orderedCommitCompletion => Sys2Proof.Machine.execOrderedCommitCompletion s
  | .endOfHardReset cause strap supplyHigh => Sys2Proof.Machine.execEndOfHardReset cause strap supplyHigh s

end Sys2Proof.Machine
end

