-- ==== Sys2Proof/Safety.lean ====
section
/-! DEFINITION. What holds of every state the part can be in, one predicate for each promise that the manual makes about
the whole part. Each is decidable, so that it can be tested on a state. -/

namespace Sys2Proof.Machine

open Sys2Proof

/-- Every lane health score stays within 0 to 4,095 (R63). -/
abbrev ScoresInRange (s : State) : Prop := ∀ l : Fin 4, (s.lanes.get l).score ≤ 4095

/-- A lane that is not OFF is in QUARANTINED exactly while its cause set is not empty (R65, R68, R82). -/
abbrev QuarantineFollowsCauses (s : State) : Prop :=
  ∀ l : Fin 4, (s.lanes.get l).state ≠ .off →
    ((s.lanes.get l).state = .quarantined ↔ (s.prot.guards.get l).causes ≠ Causes.none)

/-- STRIKE is held exactly while the lane's hold timer runs (R79, R80), STORM exactly while the posture is ON and the
lane's storm-isolate flag is set (R86), and a driver retry timer runs only while DRIVER is held (R90). -/
abbrev CausesHaveTheirReasons (s : State) : Prop :=
  ∀ l : Fin 4,
    (s.prot.guards.get l).causes.strike = (s.prot.guards.get l).strikeHold.isSome ∧
    (s.prot.guards.get l).causes.storm = (s.prot.stormOn && s.prot.config.isolate.get l) ∧
    ((s.prot.guards.get l).retry.isSome = true → (s.prot.guards.get l).causes.driver = true)

/-- The storm level lies in 0 to 15, the posture is one that its level allows, and the decay timer runs exactly while
the level is above 0 (R84, R85). -/
abbrev StormConsistent (s : State) : Prop :=
  s.prot.stormLevel ≤ 15 ∧
  (s.prot.stormOn = true → 1 ≤ s.prot.stormLevel) ∧
  (s.prot.stormOn = false → s.prot.stormLevel ≤ 7) ∧
  (s.prot.stormLevel = 0 ↔ s.prot.stormDecay = none)

/-- Every parameter of CONFIGURE lies in its range (R187). -/
abbrev ParamsInRange (s : State) : Prop :=
  (2 ≤ s.params.c ∧ s.params.c ≤ 64) ∧ (24 ≤ s.params.lead ∧ s.params.lead ≤ 4096) ∧
  (1 ≤ s.params.missLimit ∧ s.params.missLimit ≤ 15) ∧
  (1 ≤ s.params.holdoverBase ∧ s.params.holdoverBase ≤ 255) ∧ s.params.holdoverScale ≤ 7 ∧
  (8 ≤ s.params.callWindow ∧ s.params.callWindow ≤ 2000) ∧ s.params.recallInterval ≤ 255 ∧
  (8 ≤ s.params.readmitHold ∧ s.params.readmitHold ≤ 65535)

/-- Every parameter of PROTECTION SETUP lies in its range (R189). -/
abbrev GuardsInRange (s : State) : Prop :=
  (1 ≤ s.prot.config.strikeHold ∧ s.prot.config.strikeHold ≤ 255) ∧
  (1 ≤ s.prot.config.stormDecay ∧ s.prot.config.stormDecay ≤ 255) ∧
  (5 ≤ s.prot.config.driverRetry ∧ s.prot.config.driverRetry ≤ 255) ∧
  s.prot.config.currentLimit ≤ 3 ∧ s.prot.config.blanking ≤ 3

/-- While a condition holds the part in hard reset, every block stands at its hard reset values (R195, R197). -/
abbrev ResetHeld (s : State) : Prop := inReset s = true → s = hardReset s.resetting s

/-- The state that belongs to one role is empty at the other (R24, 0.2). -/
abbrev RoleStateApart (s : State) : Prop :=
  (s.role = .mast → s.changes = [] ∧ s.orders.pending = none ∧ s.orders.commit = none ∧ s.orders.fullSync = none ∧
    s.chan.fromMast = none) ∧
  (s.role = .truck → s.stage = StageArea.empty ∧ s.orders.heard = none ∧ s.orders.mismatch = false ∧
    s.orders.ready = none ∧ s.chan.fromTruck = none)

/-- The change set holds at most 16 edits, and never two for the same circuit number (R8). -/
abbrev ChangeSetBounded (s : State) : Prop := s.changes.length ≤ 16 ∧ (s.changes.map editNumber).Nodup

/-- The LIVE slots stand in ascending circuit number, so their numbers are distinct and at most 64 (R6). -/
abbrev TableInOrder (s : State) : Prop := (s.table.slots.map fun x => x.record.number).Pairwise (· < ·)

/-- An edit fits its number: an ADD a FREE one, a MODIFY or a RETIRE a LIVE one (R8). -/
def editFits (slots : List Slot) : Edit → Bool
  | .add r => (slotAt slots r.number).isNone
  | .modify r => (slotAt slots r.number).isSome
  | .retire n => (slotAt slots n).isSome

/-- Each edit of the change set fits its number in the committed table (R8). -/
abbrev EditsFitTable (s : State) : Prop := ∀ e ∈ s.changes, editFits s.table.slots e = true

/-- At the truck end neither the committed table nor the projected table holds two LIVE records that share a port side
(R6, R12). -/
abbrev PortsApart (s : State) : Prop :=
  s.role = .truck →
    conflictFree (recordsOf s.table.slots) = true ∧
    conflictFree (projected (recordsOf s.table.slots) s.changes) = true

/-- The stage area holds what R16 allows: with no target nothing, and else no more items than its total, which lies in
the range of its mode, and only ADDs in a FULL stage. -/
abbrev StageWellFormed (s : State) : Prop :=
  (s.stage.target = none → s.stage = StageArea.empty) ∧
  s.stage.items.length ≤ s.stage.total ∧
  (s.stage.target ≠ none → s.stage.mode = .change → 1 ≤ s.stage.total ∧ s.stage.total ≤ 16) ∧
  (s.stage.mode = .full → s.stage.total ≤ 64 ∧ ∀ e ∈ s.stage.items, editCode e = 1)

/-- In STANDBY and CALLING nothing of a plan, an order, a transfer or the far end is held (R45, R119, R130, R131). -/
abbrev LinkHoldsNothing (s : State) : Prop :=
  s.link.state = .standby ∨ s.link.state = .calling →
    s.orders.stamp = Stamp.zero ∧ s.orders.view = none ∧ s.orders.pending = none ∧ s.orders.heard = none ∧
    s.orders.fullSync = none ∧ s.orders.decision = none ∧ s.orders.resync = none ∧ s.orders.mismatchCount = 0 ∧
    s.orders.mismatch = false ∧ s.orders.ready = none ∧
    s.planner.run = none ∧ s.planner.next = none ∧ s.planner.current = none ∧
    s.stage = StageArea.empty ∧ s.service.limits = none ∧ (∀ x ∈ s.table.slots, x.queue = []) ∧
    s.chan.fromMast = none ∧ s.chan.fromTruck = none ∧ s.chan.missCount = 0 ∧ s.chan.silent = false ∧
    s.link.origin = none ∧ s.link.holdCount = 0

/-- The call schedule runs exactly in CALLING, with an attempt number 1 to 3 and a timer; a gap follows the first or the
second window of a round (R121). -/
abbrev ScheduleFollowsLink (s : State) : Prop :=
  (s.link.state = .calling → s.link.phase ≠ none ∧ s.link.timer ≠ none ∧ 1 ≤ s.link.attempt ∧ s.link.attempt ≤ 3) ∧
  (s.link.state ≠ .calling → s.link.phase = none ∧ s.link.timer = none ∧ s.link.attempt = 0) ∧
  (s.link.phase = some .gap → s.link.attempt ≤ 2)

/-- A pending order's epoch is never passed at the truck end (R141, R142). -/
abbrev EpochNotPassed (s : State) : Prop :=
  ∀ o : Order, s.orders.pending = some o → (o.epoch - s.count).toNat < 2 ^ 31

/-- No queue holds more cells than its circuit's limit, the pool holds at most 16,384 cells, and the exhaustion mark is
set only above 12,288 cells (R164, R166). -/
abbrev QueuesBounded (s : State) : Prop :=
  (∀ x ∈ s.table.slots, x.queue.length ≤ queueLimit s.service.limits x.record.number) ∧
  occupancy s ≤ 16384 ∧ (s.service.exhausted = true → 12288 < occupancy s)

/-- A queue holds cells only where this end is its circuit's sending end (R163). -/
abbrev QueuesAtSender (s : State) : Prop :=
  ∀ x ∈ s.table.slots, x.queue ≠ [] → senderOf x.record.direction = s.role

/-- The miss count lies in 0 to 15 (R112, R113). -/
abbrev MissesBounded (s : State) : Prop := s.chan.missCount ≤ 15

end Sys2Proof.Machine
end

