-- ==== Sys2Proof/Certificates/Slice0/Obligations.lean ====
section
/-! DEFINITION. The statements for the provers, in the order of the manual's blocks. The helpers in `Sys2Proof.Claims` spell
out what a rule asks for, apart from the model's own way of computing it. -/

open Sys2Proof Sys2Proof.Machine

namespace Sys2Proof.Claims

/-! ### Vocabulary of the statements -/

/-- The part runs: no condition holds it in hard reset (R195, R197). -/
abbrev Runs (s : State) : Prop := inReset s = false

/-- A number in two bytes, most significant first (0.4). -/
def twoBytes (a b : Byte) : Nat := a.toNat * 256 + b.toNat

/-- The state that a command leaves, where it answers a next state. -/
def ran (s : State) (c : Instr) : State :=
  match exec c s with
  | .next t => t
  | _ => s

/-- No flag is cleared, and none is set but those listed (R190). -/
def RaisesOnly (fs : List Flag) (s t : State) : Prop :=
  ∀ f : Flag, (flagSet f s = true → flagSet f t = true) ∧ (f ∉ fs → flagSet f t = flagSet f s)

/-- A value written to a parameter: kept when its mark is absent, else moved into its range (R187, R189). -/
def within (present : Bool) (lo hi v old : Nat) : Nat := if present then max lo (min hi v) else old

/-- A present value that lies outside its range (R187, R189). -/
def outside (present : Bool) (lo hi v : Nat) : Bool := present && (decide (v < lo) || decide (hi < v))

/-- A counter after an advance: it stays at its limit (0.4, R177). -/
def saturating (limit old n : Nat) : Nat := if old + n ≤ limit then old + n else limit

/-- A 32-bit counter has come to its limit from below (R177). -/
def saturates (old new : Nat) : Bool := decide (old < 4294967295) && decide (new = 4294967295)

/-- Either end is in DEAD_BAND as the truck end knows it (R94). -/
def eitherDeadBand (s : State) : Bool :=
  decide (s.prot.supply = .deadBand) || s.chan.fromMast.any fun p => p.1.deadBand

/-- The request as a part with these address pins reads it: IDENTIFY comes with the pins (R180). -/
def readBy (pins : BitVec 2) : Instr → Instr
  | .identify t => .identify ⟨pins, t.bytes⟩
  | i => i

/-- The frame is discarded by one of the first five cases of R181. -/
def discardCase (header code len : Byte) (rest : List Byte) : Prop :=
  rest.length < len.toNat + 1 ∨ 120 < len.toNat ∨
  crc8 (header :: code :: len :: rest.take len.toNat) ≠ byteAt rest len.toNat ∨
  (header.getLsbD 7 = true ∧ code ≠ 0x17) ∨ (code = 0x17 ∧ len.toNat ≠ 5)

/-- The body length of every request that is answered BAD_FIELD for another length (R200). -/
def formLengths : List (Byte × Nat) :=
  [(0x01, 0), (0x02, 0), (0x03, 2), (0x04, 2), (0x05, 12), (0x06, 3), (0x07, 13), (0x10, 1), (0x11, 16), (0x12, 16),
   (0x13, 1), (0x14, 1), (0x15, 0), (0x16, 1), (0x18, 3), (0x20, 1), (0x21, 3), (0x22, 1), (0x30, 0), (0x31, 0),
   (0x3F, 0)]

/-- The request code of a request that only reads: READ COUNTERS counts while its clear option is 0. -/
def readingCode : Instr → Option Byte
  | .identify _ => some 0x01
  | .status _ => some 0x02
  | .readCircuit _ => some 0x10
  | .readChanges _ => some 0x14
  | .readPlanCircuit _ => some 0x18
  | .readPlanLane _ => some 0x18
  | .readLane _ => some 0x20
  | .readCountersCircuit b => if byteAt b 2 = 0 then some 0x21 else none
  | .readCountersEnd b => if byteAt b 2 = 0 then some 0x21 else none
  | .readCountersLane b => if byteAt b 2 = 0 then some 0x21 else none
  | .readCountersProtection b => if byteAt b 2 = 0 then some 0x21 else none
  | _ => none

/-- An item that may be absent: its presence byte, then the item or zeros of its size (R200). -/
def shown {α : Type} (size : Nat) (item : Option α) (fields : α → List Field) : List Field :=
  match item with
  | some a => .num 1 1 :: fields a
  | none => [.num 1 0, .num size 0]

/-- A mark in one byte: 1 for yes (R200). -/
def shownMark (b : Bool) : Field := .num 1 (if b then 1 else 0)

/-- The link group: the state, the call schedule in CALLING, origin, count and limit in HOLDOVER (R134, R194). The limit is
the one formed at the latest cycle end (R128, R188). -/
def linkShown (s : State) : List Field :=
  ([.num 1 (linkStateCode s.link.state)] : List Field) ++
  shown 6 (if s.link.state = .calling then s.link.phase else none) (fun p =>
    [.uncoded (.callPhase (match p with | .window => 0 | .gap => 1 | .recallWait => 2)), .num 1 s.link.attempt,
     .num 4 (s.link.timer.getD 0)]) ++
  shown 9 (if s.link.state = .holdover then some s.link else none) (fun k =>
    [.num 1 (if k.origin = some .syncing then 2 else 3), .num 4 k.holdCount,
     .num 4 k.limit])

/-- BLANK and the ready stamp, this end's own at the mast end and those last reported at the truck end (R194). -/
def blankAndReadyShown (s : State) : List Field :=
  match s.role with
  | .mast => ([shownMark (inBlank s)] : List Field) ++ shown 4 s.orders.ready (fun r => [.bytes (stampBytes r)])
  | .truck =>
    match s.chan.fromMast with
    | some (m, _) => ([shownMark m.blank] : List Field) ++ shown 4 m.ready (fun r => [.bytes (stampBytes r)])
    | none => [.num 1 0, .num 1 0, .num 4 0]

/-- The orders group at the truck end (R139, R150, R194). -/
def ordersShown (o : Orders) : List Field :=
  shown 9 o.pending (fun p => [.num 4 p.epoch.toNat, .bytes (stampBytes p.stamp), shownMark (decide (p.kind ≠ .plain))]) ++
  shown 4 o.latest (fun p => [.bytes (stampBytes p)]) ++
  ([.num 1 o.mismatchCount, shownMark (decide (o.resync ≠ none))] : List Field) ++
  shown 1 o.resync (fun r => [.uncoded (.resyncKind (decide (r = .fullSync)))])

/-- The orders group at the mast end (R145, R149, R194). -/
def heardShown (o : Orders) : List Field :=
  shown 8 o.heard (fun h => [.num 4 h.order.epoch.toNat, .bytes (stampBytes h.order.stamp)]) ++
  ([shownMark o.mismatch] : List Field)

/-- The requested epoch of a triggered commit (R155). -/
def requestedEpoch (o : Orders) : Option Count :=
  match o.commit.map CommitJob.phase with
  | some (.armed g) => g
  | _ => none

/-- The commit group (R151, R155, R157, R194). -/
def commitShown (o : Orders) : List Field :=
  ([.num 1 (match o.commit.map CommitJob.phase with
    | none => 0
    | some (.transferring _) => 1
    | some (.armed _) => 2
    | some (.ordered _ _) => 3)] : List Field) ++
  shown 4 o.commit (fun j => [.num 2 j.target.toNat, .num 1 j.total, .num 1 j.code]) ++
  ([shownMark (requestedEpoch o).isSome] : List Field) ++ shown 4 (requestedEpoch o) (fun g => [.num 4 g.toNat]) ++
  shown 8 o.done (fun d => [.num 2 d.generation.toNat, .num 4 d.epoch.toNat, shownMark d.moved, .num 1 d.code])

/-- The synchronising group (R134, R159, R194). -/
def syncShown (s : State) : List Field :=
  shown 1 s.orders.decision (fun d => [.uncoded (.syncOutcome (decide (d = .fullSync)))]) ++
  ([shownMark s.orders.fullSync.isSome] : List Field) ++
  shown 4 s.orders.fullSync (fun f => [.num 2 f.target.toNat, .num 1 f.items.length,
    .num 1 ((s.chan.fromMast.map fun p => p.1.held).getD 0)])

/-- The control channel group with the far-end summary (R117, R194). -/
def channelShown (s : State) : List Field :=
  ([.num 2 (s.count.toNat / s.params.c % 65536), .num 1 s.chan.missCount, .num 1 s.params.missLimit,
    shownMark s.chan.silent] : List Field) ++
  match s.role with
  | .truck => shown 24 s.chan.fromMast (fun p =>
      ([.num 4 p.2.toNat, .num 1 (linkStateCode p.1.link), .num 2 p.1.generation.toNat, .bytes (stampBytes p.1.stamp),
        .uncoded (.posture p.1.stormOn), .uncoded (.supply p.1.deadBand)] : List Field) ++
      shown 2 p.1.stageTarget (fun t => [.num 2 t.toNat]) ++
      ([.num 1 (modeCode p.1.stageMode), .num 1 p.1.held] : List Field) ++
      shown 4 p.1.ready (fun r => [.bytes (stampBytes r)]) ++ ([shownMark p.1.blank] : List Field))
  | .mast => shown 22 s.chan.fromTruck (fun p =>
      ([.num 4 p.2.toNat, .num 1 (linkStateCode p.1.link), .num 2 p.1.generation.toNat, .bytes (stampBytes p.1.stamp),
        .uncoded (.posture p.1.stormOn), .uncoded (.supply p.1.deadBand)] : List Field) ++
      shown 8 p.1.order (fun o => [.num 4 o.epoch.toNat, .bytes (stampBytes o.stamp)]))

/-- The protection group (R84, R85, R93, R194). -/
def protectionShown (s : State) : List Field :=
  ([.uncoded (.supply (decide (s.prot.supply = .deadBand)))] : List Field) ++
  shown 1 (match s.role with
    | .truck => s.chan.fromMast.map fun p => p.1.deadBand
    | .mast => s.chan.fromTruck.map fun p => p.1.deadBand) (fun d => [.uncoded (.supply d)]) ++
  ([.num 1 s.prot.stormLevel, .uncoded (.posture s.prot.stormOn)] : List Field)

/-- The planner group (R40, R194). -/
def plansShown (p : Planner) : List Field :=
  shown 4 p.current (fun x => [.bytes (stampBytes x.stamp)]) ++ shown 4 p.next (fun x => [.bytes (stampBytes x.stamp)]) ++
  shown 8 p.run (fun r => [.bytes (stampBytes r.stamp), .num 4 r.stop.toNat])

/-- The status byte as it is formed now: attention, answer ready, commit in progress (R184, R200). -/
def statusNow (s : State) : Byte :=
  (if s.host.flags &&& s.host.mask ≠ 0 then 0x80 else 0) ||| (if s.host.held = none then 0 else 0x40) |||
    (if s.role = .truck ∧ s.orders.commit ≠ none then 0x20 else 0)

/-- The answer frame that a FETCH shifts out now: the held answer, or NONE with an empty body, behind its status byte and
before its check (R183, R184, R200). -/
def frameNow (s : State) : List Byte :=
  match s.host.held with
  | some a =>
    let front := statusNow s :: a.request :: answerCodeByte a.code :: BitVec.ofNat 8 (bodyLine a.body).length :: bodyLine a.body
    front ++ [crc8 front]
  | none => [statusNow s, 0x7E, 0x0E, 0x00, crc8 [statusNow s, 0x7E, 0x0E, 0x00]]

end Sys2Proof.Claims

open Sys2Proof.Claims

/-! ### The block as a whole -/

/-- A step takes the command at the front of the queue and executes it with the rest of the queue. On an empty queue the
block idles, which is the model's choice (assumption log 4). -/
def Obligations.StepTakesFrontCommand : Prop :=
  (∀ (c : Instr) (q : List Instr) (s : State), step { s with pending := c :: q } = exec c { s with pending := q }) ∧
  ∀ s : State, s.pending = [] → step s = .next s

/-- No command stops the part, and none touches the queue. -/
def Obligations.EveryCommandAnswersNext : Prop :=
  ∀ (c : Instr) (s : State), ∃ t : State, exec c s = .next t ∧ t.pending = s.pending

/-! ### Host port and event unit -/

/-- Which bytes of a transaction are no frame for this part, a frame that is discarded, or a request, by the address pins
as they stand at its start, and what a discarded frame, a frame for another part and an unknown request code do (R180,
R181). -/
def Obligations.FramesJudgedInOrder : Prop :=
  (∀ (pins : BitVec 2) (header code len : Byte) (rest : List Byte),
    decodeFrame pins [] = none ∧
    (header.getLsbD 7 = false → header.extractLsb' 0 2 ≠ pins →
      decodeFrame pins [header] = none ∧ decodeFrame pins [header, code] = none ∧
      decodeFrame pins (header :: code :: len :: rest) = none) ∧
    ((header.getLsbD 7 = true ∨ header.extractLsb' 0 2 = pins) →
      decodeFrame pins [header] = some (.badRequest ⟨pins, [header]⟩) ∧
      decodeFrame pins [header, code] = some (.badRequest ⟨pins, [header, code]⟩) ∧
      (discardCase header code len rest → decodeFrame pins (header :: code :: len :: rest) =
        some (.badRequest ⟨pins, header :: code :: len :: rest⟩)) ∧
      (¬ discardCase header code len rest → decodeFrame pins (header :: code :: len :: rest) =
        some (requestOf pins code (rest.take len.toNat) (rest.length - (len.toNat + 1)))))) ∧
  (∀ (pins : BitVec 2) (bytes : List Byte) (s : State), Runs s →
    (decodeFrame pins bytes = some (.badRequest ⟨pins, bytes⟩) →
      exec (.badRequest ⟨pins, bytes⟩) s = .next (raise .badRequest s)) ∧
    (decodeFrame pins bytes = none → exec (.badRequest ⟨pins, bytes⟩) s = .next s)) ∧
  ∀ (pins : BitVec 2) (code : Byte) (body : List Byte) (k : Nat) (s : State), Runs s → code ∉ requestCodes →
    requestOf pins code body k = .badCode code ∧ exec (.badCode code) s = .next (respond code .badCode [] s)

/-- Every well-formed request that is laid out in a frame is read back as itself by the part it is for, a grouped TRIGGER
by every part, and a frame that is not grouped by no part with another address. IDENTIFY comes with the address pins of the
part that reads it (R180 to R182, R200). -/
def Obligations.RequestFramesRoundTrip : Prop :=
  ∀ (i : Instr) (group : Bool) (chip : BitVec 2) (bytes : List Byte),
    i.wellFormed = true → encodeFrame group chip i = some bytes →
    (group = false → decodeFrame chip bytes = some (readBy chip i) ∧
      ∀ other : BitVec 2, other ≠ chip → decodeFrame other bytes = none) ∧
    (group = true → ∀ pins : BitVec 2,
      decodeFrame pins bytes = some (match i with
        | .trigger _ => i
        | _ => .badRequest ⟨pins, bytes⟩))

/-- A body whose length is not the one its request's form gives is answered BAD_FIELD, and nothing else changes
(R181, R185, R200). -/
def Obligations.WrongLengthsRefused : Prop :=
  ∀ (code : Byte) (length : Nat), (code, length) ∈ formLengths →
    ∀ (pins : BitVec 2) (body : List Byte) (k : Nat) (s : State), Runs s → body.length ≠ length →
      exec (requestOf pins code body k) s = .next (respond code .badField [] s)

/-- A request that only reads changes nothing at the part but its held answer, whatever its body (R14, R15, R19, R47,
R48, R73, R183, R185, R186, R194). -/
def Obligations.ReadingRequestsChangeOnlyTheAnswer : Prop :=
  ∀ (c : Instr) (code : Byte) (s : State), readingCode c = some code → Runs s →
    ∃ t : State, exec c s = .next t ∧ t = { s with host := { s.host with held := t.host.held } } ∧
      t.host.held.map (·.request) = some code

/-- What IDENTIFY and STATUS answer: STATUS gathers its groups in their order, an absent item as a 0 followed by zeros of
its size (R117, R134, R193, R194, R200). The bytes of the family, part and role items and of the states that table 10.2
gives no code are values that the manual leaves open (assumption log 5). How a conditional item and a group of the other
role are laid out, the BLANK shown while no mast reply is held, the size of the pool item and the place of the committed
generation (R7), the far end's supply state without a report, and that no lane item is carried, are the model's (assumption
logs 6, 19, 27, 45, 49, 52 and 53). -/
def Obligations.IdentifyAndStatusAnswer : Prop :=
  ∀ (s : State) (pins : BitVec 2), Runs s →
    exec (.identify ⟨pins, []⟩) s = .next (respond 0x01 .ok
      [.identity .family, .identity .part, .num 1 1, .uncoded (.role s.role), .num 1 pins.toNat, .num 1 4,
       .num 1 64, .num 1 32, .num 2 16384, .num 1 16, .num 1 64, .num 1 4] s) ∧
    exec (.status []) s = .next (respond 0x02 .ok
      (([.uncoded (.role s.role), .num 1 (resetCauseCode s.host.cause), .num 4 s.count.toNat, .num 1 s.params.c,
         .num 2 s.params.lead] : List Field) ++ linkShown s ++
       ([.num 2 s.table.generation.toNat, .bytes (stampBytes s.orders.stamp)] : List Field) ++ blankAndReadyShown s ++
       (if s.role = .truck then ordersShown s.orders ++ commitShown s.orders ++ syncShown s
        else heardShown s.orders) ++
       channelShown s ++ protectionShown s ++ plansShown s.planner) s)

/-- EVENTS reports all sixteen flags and then clears those of the clear set that it reported set; a flag set before it is
reported and cleared, and a flag set after it stays set (R191). -/
def Obligations.EventsReportAndClear : Prop :=
  ∀ (s : State) (b0 b1 : Byte), Runs s →
    (∃ t : State, exec (.events [b0, b1]) s = .next t ∧
      t = { s with host := { s.host with
              held := some ⟨0x03, .ok, [.num 2 s.host.flags.toNat]⟩, flags := t.host.flags } } ∧
      (∀ f : Flag, flagSet f t = (flagSet f s && !(b0 ++ b1).getLsbD (flagBit f))) ∧
      ∀ f : Flag, flagSet f (raise f t) = true) ∧
    exec (.events [0, 0]) s = .next (respond 0x03 .ok [.num 2 s.host.flags.toNat] s) ∧
    ∀ f : Flag, ∃ u : State, exec (.events [b0, b1]) (raise f s) = .next u ∧
      (∃ w : BitVec 16, u.host.held = some ⟨0x03, .ok, [.num 2 w.toNat]⟩ ∧ w.getLsbD (flagBit f) = true) ∧
      flagSet f u = !(b0 ++ b1).getLsbD (flagBit f)

/-- EVENT MASK writes all sixteen marks; the attention line is asserted exactly while an enabled flag is set, so a flag
that is set asserts it only where its mark is enabled, and what EVENTS leaves set decides it; the status byte shows it, and a
reset that clears the flags releases it. EVENTS reports a flag whatever its mark (R192). -/
def Obligations.EventMaskAndAttention : Prop :=
  (∀ (s : State) (b0 b1 : Byte), Runs s →
    exec (.eventMask [b0, b1]) s = .next { s with host := { s.host with
      mask := b0 ++ b1, held := some ⟨0x04, .ok, [.num 2 (b0 ++ b1).toNat]⟩ } } ∧
    ∃ t : State, exec (.events [b0, b1]) s = .next t ∧
      attention t = decide (s.host.flags &&& ~~~(b0 ++ b1) &&& s.host.mask ≠ 0) ∧
      t.host.held = some ⟨0x03, .ok, [.num 2 s.host.flags.toNat]⟩) ∧
  ∀ s : State,
    (attention s = true ↔ ∃ f : Flag, flagSet f s = true ∧ s.host.mask.getLsbD (flagBit f) = true) ∧
    (∀ f : Flag, flagSet f (raise f s) = true ∧
      attention (raise f s) = (attention s || s.host.mask.getLsbD (flagBit f))) ∧
    (byteAt (fetchFrame s) 0).getLsbD 7 = attention s ∧
    attention (softReset s) = false ∧ ∀ held : Resetting, attention (hardReset held s) = false

/-- CONFIGURE is refused whole when C or the lead is present outside STANDBY; else every present value is moved into its
range and written, the values in force are answered, and the code tells whether one was moved. The defaults are those of
the rule (R187). That a refusal answers the values in force too is the model's reading (assumption log 18). -/
def Obligations.ConfigureWrites : Prop :=
  State.reset.params = ⟨8, 40, 4, 250, 4, 40, 5, 800⟩ ∧
  ∀ (s : State) (p c l0 l1 m b g w0 w1 r h0 h1 : Byte), Runs s →
    ((p.getLsbD 7 = true ∨ p.getLsbD 6 = true) → s.link.state ≠ .standby →
      exec (.configure [p, c, l0, l1, m, b, g, w0, w1, r, h0, h1]) s = .next (respond 0x05 .badState
        [.num 1 s.params.c, .num 2 s.params.lead, .num 1 s.params.missLimit, .num 1 s.params.holdoverBase,
         .num 1 s.params.holdoverScale, .num 2 s.params.callWindow, .num 1 s.params.recallInterval,
         .num 2 s.params.readmitHold] s)) ∧
    (((p.getLsbD 7 = false ∧ p.getLsbD 6 = false) ∨ s.link.state = .standby) →
      ∃ t : State, exec (.configure [p, c, l0, l1, m, b, g, w0, w1, r, h0, h1]) s = .next t ∧
        t.params = {
          c := within (p.getLsbD 7) 2 64 c.toNat s.params.c
          lead := within (p.getLsbD 6) 24 4096 (twoBytes l0 l1) s.params.lead
          missLimit := within (p.getLsbD 5) 1 15 m.toNat s.params.missLimit
          holdoverBase := within (p.getLsbD 4) 1 255 b.toNat s.params.holdoverBase
          holdoverScale := within (p.getLsbD 3) 0 7 g.toNat s.params.holdoverScale
          callWindow := within (p.getLsbD 2) 8 2000 (twoBytes w0 w1) s.params.callWindow
          recallInterval := within (p.getLsbD 1) 0 255 r.toNat s.params.recallInterval
          readmitHold := within (p.getLsbD 0) 8 65535 (twoBytes h0 h1) s.params.readmitHold } ∧
        t.host.held = some ⟨0x05,
          if outside (p.getLsbD 7) 2 64 c.toNat || outside (p.getLsbD 6) 24 4096 (twoBytes l0 l1) ||
             outside (p.getLsbD 5) 1 15 m.toNat || outside (p.getLsbD 4) 1 255 b.toNat ||
             outside (p.getLsbD 3) 0 7 g.toNat || outside (p.getLsbD 2) 8 2000 (twoBytes w0 w1) ||
             outside (p.getLsbD 1) 0 255 r.toNat || outside (p.getLsbD 0) 8 65535 (twoBytes h0 h1)
          then .clamped else .ok,
          [.num 1 t.params.c, .num 2 t.params.lead, .num 1 t.params.missLimit, .num 1 t.params.holdoverBase,
           .num 1 t.params.holdoverScale, .num 2 t.params.callWindow, .num 1 t.params.recallInterval,
           .num 2 t.params.readmitHold]⟩ ∧
        (t.params.c = s.params.c → t.chan.cycleDue = s.chan.cycleDue) ∧
        t = { s with params := t.params, chan := { s.chan with cycleDue := t.chan.cycleDue },
                     host := { s.host with held := t.host.held } })

/-- FETCH shifts out the held answer, or NONE with an empty body, behind a fresh status byte, with zeros after the check;
the answer is consumed exactly when its check byte has been shifted out, and a second FETCH then finds none (R183,
R184). That a held NONE of READ PLAN bears its own request code and the answer-ready mark is assumption log 47. -/
def Obligations.FetchShiftsOut : Prop :=
  ∀ (s : State) (body : List Byte) (k : Nat), Runs s →
    ∃ t : State, exec (.fetch body k) s = .next t ∧
      t = { s with host := { s.host with
        shifted := (frameNow s ++ List.replicate (k - (frameNow s).length) 0).take k
        held := if (frameNow s).length ≤ k then none else s.host.held } } ∧
      ((frameNow s).length ≤ k → ∃ u : State, exec (.fetch [] 5) t = .next u ∧
        u.host.shifted = [statusNow t, 0x7E, 0x0E, 0x00, crc8 [statusNow t, 0x7E, 0x0E, 0x00]] ∧
        (statusNow t).getLsbD 6 = false)

/-! ### Circuit table -/

namespace Sys2Proof.Claims

/-- The staging requests: each with its code and the edit that its body gives, or none where a field is out of range
(R2, R3, R10). -/
inductive StagingRequest : Instr → Byte → Option Edit → Prop where
  | add (body : List Byte) (h : body.length = 16) :
      StagingRequest (.stageAdd body) 0x11 ((recordOf body).map .add)
  | modify (body : List Byte) (h : body.length = 16) :
      StagingRequest (.stageModify body) 0x12 ((recordOf body).map .modify)
  | retire (n : Fin 64) : StagingRequest (.stageRetire [BitVec.ofNat 8 n.val]) 0x13 (some (.retire n))
  | retireNone (b : Byte) (h : 64 ≤ b.toNat) : StagingRequest (.stageRetire [b]) 0x13 none

/-- The edit is an ADD. -/
def isAdd : Edit → Bool
  | .add _ => true
  | _ => false

/-- The number is LIVE in a list of records. -/
def liveIn (rs : List Record) (n : Fin 64) : Bool := rs.any fun q => decide (q.number = n)

/-- Some other record of the list uses the same direction and the same port at one end as the record of the edit (R4,
R12). -/
def bindsTaken (rs : List Record) (e : Edit) : Bool :=
  match e with
  | .retire _ => false
  | .add r | .modify r => rs.any fun q => decide (q.number ≠ r.number) && decide (q.direction = r.direction) &&
      (decide (q.mastPort = r.mastPort) || decide (q.truckPort = r.truckPort))

/-- The rows of R11 for a held edit and a request of the same number: a refusal, the removal of the edit, or the edit that
takes its place. -/
def mergeRow : Edit → Edit → Except AnswerCode (Option Edit)
  | .add _, .add _ => .error .exists_
  | .add _, .modify r => .ok (some (.add r))
  | .add _, .retire _ => .ok none
  | .modify _, .add _ => .error .exists_
  | .modify _, .modify r => .ok (some (.modify r))
  | .modify _, .retire n => .ok (some (.retire n))
  | .retire _, .add r => .ok (some (.modify r))
  | .retire _, .modify _ => .error .noRecord
  | .retire _, .retire _ => .error .noRecord

/-- The list with the edit at a position removed, or replaced. -/
def placeAt (es : List Edit) (i : Nat) : Option Edit → List Edit
  | none => es.eraseIdx i
  | some e => es.set i e

/-- Placement and pending edit or item of a circuit, as READ CIRCUIT adds them to its first items (R15). -/
def circuitTail (s : State) (n : Fin 64) : List Field :=
  match s.role with
  | .truck => optionalItem 18 ((heldEdit s.changes n).map fun e =>
      [.num 1 (editCode e), .num 1 (editPosition s.changes n), .bytes (editBytes e)])
  | .mast => optionalItem 21 ((heldEdit s.stage.items n).map fun e =>
      [.num 1 (editPosition s.stage.items n), .num 1 (editCode e), .bytes (editBytes e),
       .num 2 (s.stage.target.getD 0).toNat, .num 1 (modeCode s.stage.mode)])

end Sys2Proof.Claims

/-- READ CIRCUIT answers the slot's state, a LIVE slot's record with its placement in the plan in force, and the pending
edit or item of the number, with no placement where no plan is in force or the plan has no entry for the circuit; READ
CHANGES answers one edit or item, or the header alone (R14, R15, R19). The state's byte is a value that the manual leaves
open (assumption log 5). How a conditional item is laid out is assumption log 6, and what stands for the record of a pending
RETIRE assumption log 50, and which of two staged items of one number is answered assumption log 56. -/
def Obligations.CircuitReadsAnswer : Prop :=
  ∀ (s : State) (b : Byte), Runs s →
    (64 ≤ b.toNat → exec (.readCircuit [b]) s = .next (respond 0x10 .badField [] s)) ∧
    (∀ n : Fin 64, b = BitVec.ofNat 8 n.val →
      (slotAt s.table.slots n = none → exec (.readCircuit [b]) s =
        .next (respond 0x10 .ok (.uncoded (.slotState false) :: circuitTail s n) s)) ∧
      (∀ x : Slot, slotAt s.table.slots n = some x →
        ((∀ p : Plan, planInForce s = some p → (p.direction x.record.direction).entry n = none) →
          exec (.readCircuit [b]) s = .next (respond 0x10 .ok
            (([.uncoded (.slotState true), .bytes (recordBytes x.record), .num 1 0, .num 9 0] : List Field) ++
              circuitTail s n) s)) ∧
        (∀ (p : Plan) (e : Entry), planInForce s = some p → (p.direction x.record.direction).entry n = some e →
          x.record.number = n → exec (.readCircuit [b]) s = .next (respond 0x10 .ok
            (([.uncoded (.slotState true), .bytes (recordBytes x.record), .num 1 1] : List Field) ++ placementFields e ++
              circuitTail s n) s)))) ∧
    (s.role = .truck →
      (15 < b.toNat → exec (.readChanges [b]) s = .next (respond 0x14 .badField [] s)) ∧
      (b.toNat ≤ 15 → s.changes.length ≤ b.toNat → exec (.readChanges [b]) s =
        .next (respond 0x14 .noRecord [.num 1 (commitStateCode s.orders), .num 1 s.changes.length] s)) ∧
      (∀ e : Edit, b.toNat ≤ 15 → s.changes[b.toNat]? = some e → exec (.readChanges [b]) s =
        .next (respond 0x14 .ok (([.num 1 (commitStateCode s.orders), .num 1 s.changes.length, .num 1 (editCode e),
          .num 1 (editNumber e).val] : List Field) ++ (editRecord e).toList.map fun r => .bytes (recordBytes r)) s))) ∧
    (s.role = .mast →
      (63 < b.toNat → exec (.readChanges [b]) s = .next (respond 0x14 .badField [] s)) ∧
      (b.toNat ≤ 63 → ∃ header : List Field,
        header = optionalItem 2 (s.stage.target.map fun g => [.num 2 g.toNat]) ++
          ([.num 1 (modeCode s.stage.mode), .num 1 s.stage.total, .num 1 s.stage.items.length] : List Field) ∧
        (s.stage.items.length ≤ b.toNat → exec (.readChanges [b]) s = .next (respond 0x14 .noRecord header s)) ∧
        ∀ e : Edit, s.stage.items[b.toNat]? = some e → exec (.readChanges [b]) s =
          .next (respond 0x14 .ok (header ++ ([.num 1 (editCode e), .num 1 (editNumber e).val] : List Field) ++
            (editRecord e).toList.map fun r => .bytes (recordBytes r)) s)))

/-- The tests of a staging request in their order, each with its refusal and nothing else changed; a request that passes
them all changes the change set alone and is answered with what is then held for its number (R9, R10, R12). How the answer's
conditional item is laid out is assumption log 6. -/
def Obligations.StagingTestsInOrder : Prop :=
  ∀ (c : Instr) (code : Byte) (edit : Option Edit) (s : State), StagingRequest c code edit → Runs s →
    (s.changes.map editNumber).Nodup →
    (s.role = .mast → exec c s = .next (respond code .notRole [] s)) ∧
    (s.role = .truck → s.orders.commit ≠ none → exec c s = .next (respond code .busy [] s)) ∧
    (s.role = .truck → s.orders.commit = none → eitherDeadBand s = true →
      exec c s = .next (respond code .frozen [] s)) ∧
    (s.role = .truck → s.orders.commit = none → eitherDeadBand s = false →
      (edit = none → exec c s = .next (respond code .badField [] s)) ∧
      ∀ e : Edit, edit = some e →
        let projectedNow := projected (recordsOf s.table.slots) s.changes
        let final := projected (recordsOf s.table.slots) (mergeEdit s.changes e)
        let n := editNumber e
        (isAdd e = true → liveIn projectedNow n = true → exec c s = .next (respond code .exists_ [] s)) ∧
        (isAdd e = false → liveIn projectedNow n = false → exec c s = .next (respond code .noRecord [] s)) ∧
        (liveIn projectedNow n = !isAdd e →
          (bindsTaken final e = true → exec c s = .next (respond code .portTaken [] s)) ∧
          (bindsTaken final e = false → heldEdit s.changes n = none → 16 ≤ s.changes.length →
            exec c s = .next (respond code .setFull [] s)) ∧
          (bindsTaken final e = false → (heldEdit s.changes n ≠ none ∨ s.changes.length < 16) →
            ∃ es : List Edit, es = mergeEdit s.changes e ∧
              exec c s = .next (respond code .ok
                (([.num 1 n.val, .num 1 (((heldEdit es n).map editCode).getD 0)] : List Field) ++
                  optionalItem 1 ((heldEdit es n).map fun _ => [.num 1 (editPosition es n)]) ++ ([.num 1 es.length] : List Field))
                { s with changes := es }))))

/-- The table by which an accepted staging request is merged with the edit already held for its number: each row's result
where the request is answered OK, its refused rows, and that only the rows that join at the end can be refused with SET_FULL
(R11). The request has passed the tests that come before, and shares no port side. -/
def Obligations.StagedRequestsMerge : Prop :=
  ∀ (c : Instr) (code : Byte) (edit : Option Edit) (s : State), StagingRequest c code edit → Runs s →
    s.role = .truck → s.orders.commit = none → eitherDeadBand s = false → (s.changes.map editNumber).Nodup →
    ∀ e : Edit, edit = some e →
    bindsTaken (projected (recordsOf s.table.slots) (mergeEdit s.changes e)) e = false →
    ∃ t : State, exec c s = .next t ∧
      let live := liveIn (recordsOf s.table.slots) (editNumber e)
      let answered := t.host.held.map Answer.code
      (answered ≠ some .ok → t.changes = s.changes) ∧
      (heldEdit s.changes (editNumber e) = none →
        (live = true → isAdd e = true → answered = some .exists_) ∧
        (live = false → isAdd e = false → answered = some .noRecord) ∧
        (live = !isAdd e → 16 ≤ s.changes.length → answered = some .setFull) ∧
        (live = !isAdd e → s.changes.length < 16 → answered = some .ok ∧ t.changes = s.changes ++ [e])) ∧
      ∀ (i : Nat) (held : Edit), s.changes[i]? = some held → editNumber held = editNumber e →
        match mergeRow held e with
        | .error refusal => answered = some refusal
        | .ok new => answered = some .ok ∧ t.changes = placeAt s.changes i new

/-- DISCARD CHANGES by role and commit procedure state: refused at the mast end and in ORDERED; else every edit is
removed, and a commit in TRANSFERRING or ARMED is abandoned with its flag. Nothing else changes, and the projected table
equals the committed table again (R13). -/
def Obligations.DiscardChangesByState : Prop :=
  ∀ s : State, Runs s →
    (s.role = .mast → exec (.discardChanges []) s = .next (respond 0x15 .notRole [] s)) ∧
    (s.role = .truck → s.orders.commit = none →
      exec (.discardChanges []) s = .next (respond 0x15 .ok [] { s with changes := [] })) ∧
    (∀ j : CommitJob, s.role = .truck → s.orders.commit = some j →
      (∀ (epoch : Count) (moved : Bool), j.phase = .ordered epoch moved →
        exec (.discardChanges []) s = .next (respond 0x15 .busy [] s)) ∧
      ((∀ (epoch : Count) (moved : Bool), j.phase ≠ .ordered epoch moved) →
        exec (.discardChanges []) s = .next (respond 0x15 .ok []
          (raise .commitAbandoned { s with changes := [], orders := { s.orders with commit := none } })))) ∧
    projected (recordsOf s.table.slots) [] = recordsOf s.table.slots

/-- What the application of one edit does to the slot of its number, counters and queue included, and that it leaves every
other slot and the order of the table alone; after all edits of a list the table holds the records of the projected table
(R5, R9, R12, R20, R21, R173). -/
def Obligations.EditsAppliedOneByOne : Prop :=
  (∀ (role : Role) (slots : List Slot) (es : List Edit),
    recordsOf (applyEdits role slots es) = projected (recordsOf slots) es) ∧
  ∀ (role : Role) (slots : List Slot), (slots.map fun x => x.record.number).Pairwise (· < ·) →
    (∀ e : Edit,
      ((applyEdit role slots e).map fun x => x.record.number).Pairwise (· < ·) ∧
      ∀ n : Fin 64, n ≠ editNumber e → slotAt (applyEdit role slots e) n = slotAt slots n) ∧
    (∀ r : Record, slotAt (applyEdit role slots (.add r)) r.number = some ⟨r, ⟨0, 0, 0, 0, 0, 0⟩, []⟩) ∧
    (∀ n : Fin 64, slotAt (applyEdit role slots (.retire n)) n = none) ∧
    ∀ r : Record,
      (slotAt slots r.number = none →
        slotAt (applyEdit role slots (.modify r)) r.number = some ⟨r, ⟨0, 0, 0, 0, 0, 0⟩, []⟩) ∧
      ∀ x : Slot, slotAt slots r.number = some x →
        ((r.direction = .down ↔ role = .mast) →
          slotAt (applyEdit role slots (.modify r)) r.number = some ⟨r, x.counters, x.queue⟩) ∧
        (¬ (r.direction = .down ↔ role = .mast) → x.counters.dropped ≤ 4294967295 →
          slotAt (applyEdit role slots (.modify r)) r.number = some ⟨r,
            { x.counters with dropped := saturating 4294967295 x.counters.dropped x.queue.length }, []⟩)

/-- A record survives its encoding; a record is read from 16 bytes exactly where every field lies in its range, with the
fields that the bytes give, and is then well formed; a rate is read as the rate divided by 3,840 and rounded up within its
range, in demand and floor alike (R2, R3, R201). -/
def Obligations.RecordsAndRatesRead : Prop :=
  (∀ r : Record, r.wellFormed = true → recordOf (recordBytes r) = some r ∧ (recordBytes r).length = 16) ∧
  (∀ bs : List Byte,
    let demand := demandOf (decide (8388608 ≤ numAt bs 5 3)) (numAt bs 5 3 % 8388608)
    let floor := floorOf (decide (8388608 ≤ numAt bs 8 3)) (numAt bs 8 3 % 8388608)
    let lanes := (slice bs 12 (byteAt bs 11).toNat).map (·.toNat)
    let cls := (byteAt bs 1).toNat % 4
    (recordOf bs = none ↔
      64 ≤ (byteAt bs 0).toNat ∨ cls = 3 ∨ 32 ≤ (byteAt bs 2).toNat ∨ 32 ≤ (byteAt bs 3).toNat ∨
      16 ≤ (byteAt bs 4).toNat ∨ demand = none ∨ floor = none ∨
      (∃ d f : Nat, demand = some d ∧ floor = some (some f) ∧ (d ≤ f ∨ cls = 2)) ∨
      4 < (byteAt bs 11).toNat ∨ (∃ n ∈ lanes, 4 ≤ n) ∨ ¬ lanes.Nodup) ∧
    ∀ r : Record, recordOf bs = some r →
      r.wellFormed = true ∧ r.number.val = (byteAt bs 0).toNat ∧
      (r.direction = .up ↔ 128 ≤ (byteAt bs 1).toNat) ∧ classCode r.cls = cls ∧
      r.mastPort.val = (byteAt bs 2).toNat ∧ r.truckPort.val = (byteAt bs 3).toNat ∧
      r.priority.val = (byteAt bs 4).toNat ∧ some r.demand = demand ∧ some r.floor = floor ∧
      r.preference.map (·.val) = lanes) ∧
  (∀ rate : Nat,
    (slotsOfRate rate = none ↔ rate = 0 ∨ 7864320 < rate) ∧
    ∀ n : Nat, slotsOfRate rate = some n → 3840 * (n - 1) < rate ∧ rate ≤ 3840 * n ∧ 1 ≤ n ∧ n ≤ 2048) ∧
  ∀ value : Nat,
    demandOf true value = slotsOfRate value ∧
    demandOf false value = (if 1 ≤ value ∧ value ≤ 2048 then some value else none) ∧
    floorOf true value = (slotsOfRate value).map some ∧
    floorOf false value = some (if value = 0 then none else some value)

/-! ### Commits and orders -/

namespace Sys2Proof.Claims

/-- The truck end may issue an order now: the link is SYNCING or CARRYING, no order is pending, and `m` is the latest mast
reply and `view` the agreed view (R137, R140). -/
def MayIssue (s : State) (m : Reply) (view : View) : Prop :=
  s.role = .truck ∧ (s.link.state = .syncing ∨ s.link.state = .carrying) ∧ s.orders.pending = none ∧
  s.chan.fromMast.map (·.1) = some m ∧ agreedView s = some view

/-- The state in which an order has been issued: it is pending with its number taken, and its planning run has started
(R41, R139, R142). -/
def issued (o : Order) (table : List Record) (s : State) : State :=
  { s with
    orders := { s.orders with
      pending := some o
      latest := some o.stamp
      nextNumber := if s.orders.nextNumber = 65535 then 1 else s.orders.nextNumber + 1 }
    planner := { s.planner with
      run := some ⟨o.stamp, o.view, table, s.count, s.count + BitVec.ofNat 32 (max 1 ((table.length + 3) / 4))⟩
      next := if s.planner.run = none then s.planner.next else none } }

/-- The latest reply reports this stage complete to an opened transfer (R152, R154, R159; assumption log 9). -/
def stageComplete (m : Reply) (t : Transfer) (target : Word16) (mode : StageMode) (total : Nat) : Bool :=
  t.opened && decide (m.stageTarget = some target ∧ m.stageMode = mode ∧ m.held = total)

/-- A commit that wants its order: its requested epoch, 0 for one that is waiting to order (R140, R156). -/
def wantsOrder (j : CommitJob) : Option Count :=
  match j.phase with
  | .transferring true => some 0
  | .armed (some g) => some g
  | _ => none

/-- A commit's order may be issued at this reply (R140). -/
def commitMayOrder (s : State) (m : Reply) : Bool :=
  match s.orders.commit with
  | some j => (wantsOrder j).isSome && stageComplete m j.transfer j.target .change j.total &&
      decide (m.generation = s.table.generation) && !eitherDeadBand s
  | none => false

/-- A requested epoch lies from the lead to 2^31 - 1 ahead of the count (R156). -/
def requestInTime (s : State) (requested : Count) : Bool :=
  decide (s.params.lead ≤ (requested - s.count).toNat) && decide ((requested - s.count).toNat < 2147483648)

/-- The epoch of a commit's order: the requested one where it is not 0 and in time, and else the count plus the lead
(R156). -/
def commitTime (s : State) (requested : Count) : Count :=
  if requested ≠ 0 && requestInTime s requested then requested else s.count + BitVec.ofNat 32 s.params.lead

/-- A plain order is needed (R140). -/
def plainWanted (s : State) (view : View) : Bool :=
  (decide (s.link.state = .syncing) && decide (s.orders.decision = some .freshOrder)) ||
  (decide (s.link.state = .carrying) &&
    (decide (s.orders.resync = some .freshOrder) || decide (s.orders.view ≠ some view)))

/-- The commit is ORDERED. -/
def ordered (s : State) : Bool :=
  match s.orders.commit with
  | some j =>
    match j.phase with
    | .ordered _ _ => true
    | _ => false
  | none => false

/-- The successor of a generation or an order number (R7, R139). -/
def after (g : Word16) : Word16 := if g = 65535 then 1 else g + 1

/-- The planner's records when a stamp is put in force (R44). -/
def plannerTaking (stamp : Stamp) (p : Planner) : Planner :=
  match p.next with
  | some plan => if plan.stamp = stamp then { p with current := some plan, next := none, fresh := false }
                 else { p with next := none }
  | none => p

/-- The link when an order is taken: SYNCING goes to CARRYING, and a HOLDOVER gets the origin CARRYING (R124, R125,
R127). -/
def linkTaking (k : Link) : Link :=
  match k.state with
  | .syncing => { k with state := .carrying }
  | .holdover => { k with origin := some .carrying }
  | _ => k

/-- A circuit of the plan taken ranks worse than in the plan before, or than FULL_DUAL where it has no entry there
(R144). -/
def someRanksWorse (before now : Option Plan) : Bool :=
  match now with
  | none => false
  | some p => (p.down.entries ++ p.up.entries).any fun e =>
      decide (servedRank (((before.bind fun q => q.entry e.number).map fun x => x.2.served).getD .fullDual) <
        servedRank e.served)

/-- A queue cut to a limit, its cells counted on dropped (R172). -/
def cutTo (limit : Nat) (x : Slot) : Slot :=
  if x.queue.length ≤ limit then x
  else { x with
    queue := x.queue.take limit
    counters := { x.counters with
      dropped := min 4294967295 (x.counters.dropped + (x.queue.length - limit)) } }

end Sys2Proof.Claims

/-- The tests of COMMIT in their order, each with its refusal; a COMMIT that passes them all starts an unopened transfer of
the change set in list order, with a pending order left as it is; while a commit runs, staging is refused with BUSY (R151). -/
def Obligations.CommitTestsInOrder : Prop :=
  ∀ (s : State) (b : Byte), Runs s →
    (s.role = .mast → exec (.commit [b]) s = .next (respond 0x16 .notRole [] s)) ∧
    (s.role = .truck →
      (15 < b.toNat → exec (.commit [b]) s = .next (respond 0x16 .badField [] s)) ∧
      (b.toNat ≤ 15 →
        (s.orders.commit ≠ none ∨ s.orders.fullSync ≠ none → exec (.commit [b]) s = .next (respond 0x16 .busy [] s)) ∧
        (s.orders.commit = none → s.orders.fullSync = none →
          (s.link.state ≠ .carrying → exec (.commit [b]) s = .next (respond 0x16 .noLink [] s)) ∧
          (s.link.state = .carrying →
            (eitherDeadBand s = true → exec (.commit [b]) s = .next (respond 0x16 .frozen [] s)) ∧
            (eitherDeadBand s = false →
              (s.changes = [] → exec (.commit [b]) s = .next (respond 0x16 .nothingStaged [] s)) ∧
              (s.changes ≠ [] → ∃ t : State, exec (.commit [b]) s = .next t ∧
                t = respond 0x16 .ok
                  [.num 2 (after s.table.generation).toNat, .num 1 s.changes.length, .num 1 b.toNat]
                  { s with orders := { s.orders with
                    commit := some ⟨.transferring false, b.toNat, after s.table.generation, s.changes.length,
                      ⟨false, false, false⟩⟩ } } ∧
                runningTransfer t = some (⟨false, false, false⟩, after s.table.generation, .change, s.changes))))))) ∧
    ∀ (c : Instr) (code : Byte) (edit : Option Edit), StagingRequest c code edit → s.role = .truck →
      s.orders.commit ≠ none → exec c s = .next (respond code .busy [] s)

/-- TRIGGER arms an untriggered commit of its code with the requested epoch, changes nothing in every other case, has no
answer, and is discarded with BAD_REQUEST for another body length (R155, R181, R182). -/
def Obligations.TriggerArmedCommit : Prop :=
  ∀ (s : State) (code e3 e2 e1 e0 : Byte), Runs s →
    (∀ j : CommitJob, s.role = .truck → s.orders.commit = some j → j.phase = .armed none → j.code = code.toNat →
      code ≠ 0 → exec (.trigger [code, e3, e2, e1, e0]) s = .next { s with orders := { s.orders with
        commit := some { j with phase := .armed (some (e3 ++ e2 ++ e1 ++ e0)) } } }) ∧
    (s.role = .mast ∨ code = 0 ∨ (∀ j : CommitJob, s.orders.commit = some j → j.phase ≠ .armed none ∨
      j.code ≠ code.toNat) → exec (.trigger [code, e3, e2, e1, e0]) s = .next s) ∧
    ∀ body : List Byte, body.length ≠ 5 → exec (.trigger body) s = .next (raise .badRequest s)

/-- The order judgement issues a plain order when one is needed and neither a full sync runs nor a commit's order may be
issued, and no order where none is needed or where none may be issued at all (R138 to R142). An event command whose condition does not
hold changes nothing (assumption log 8). What becomes of a next plan held at a run's start is assumption log 40. -/
def Obligations.PlainOrderIssued : Prop :=
  ∀ s : State, Runs s →
    (∀ (m : Reply) (view : View), MayIssue s m view → s.orders.fullSync = none → commitMayOrder s m = false →
      exec .orderIssue s = .next (if plainWanted s view then
        issued ⟨s.count + BitVec.ofNat 32 s.params.lead, ⟨s.table.generation, s.orders.nextNumber⟩, view, .plain⟩
          (recordsOf s.table.slots) s
        else s)) ∧
    (s.role = .mast ∨ s.orders.pending ≠ none ∨ s.chan.fromMast = none ∨
      (s.link.state ≠ .syncing ∧ s.link.state ≠ .carrying) → exec .orderIssue s = .next s)

/-- The order judgement issues a commit's order with the epoch that its trigger allows and the projected table to be
planned, or a running full sync's order once its stage is reported complete while neither end is in DEAD_BAND, and while a
full sync runs no other (R94, R139 to R142, R156, R159). A stage counts as
complete for an opened transfer alone (assumption log 9). What becomes of a next plan held at a run's start is
assumption log 40. -/
def Obligations.CommitAndFullSyncOrdersIssued : Prop :=
  ∀ (s : State) (m : Reply) (view : View), Runs s → MayIssue s m view →
    (∀ f : FullSync, s.orders.fullSync = some f →
      exec .orderIssue s = .next (
        if stageComplete m f.transfer f.target .full f.items.length = true ∧ eitherDeadBand s = false then
          issued ⟨s.count + BitVec.ofNat 32 s.params.lead, ⟨f.target, s.orders.nextNumber⟩, view, .fullSync⟩
            (recordsOf s.table.slots) s
        else s)) ∧
    ∀ (j : CommitJob) (requested : Count), s.orders.fullSync = none → s.orders.commit = some j →
      wantsOrder j = some requested → commitMayOrder s m = true →
      ∃ t : State, t = issued ⟨commitTime s requested, ⟨after s.table.generation, s.orders.nextNumber⟩, view, .commit⟩
          (projected (recordsOf s.table.slots) s.changes) s ∧
        exec .orderIssue s = .next { t with orders := { t.orders with
          commit := some { j with phase := .ordered (commitTime s requested) (requested ≠ 0 && !requestInTime s requested) } } }

/-- The agreed view: each direction of a lane is usable by the three conditions of its row, and only then carries a suspect
mark and a grade; without a mast reply there is no view (R137). The grade for a reported byte above 3 is a value that the
manual leaves open (assumption log 23). -/
def Obligations.AgreedViewJoinsBothEnds : Prop :=
  ∀ s : State,
    (s.chan.fromMast = none → agreedView s = none) ∧
    ∀ (m : Reply) (arrival : Count), s.chan.fromMast = some (m, arrival) → ∃ v : View, agreedView s = some v ∧
      ∀ l : Fin 4,
        let own := s.lanes.get l
        let far := m.lanes.get l
        (v.get l).kind = own.kind ∧
        (((v.get l).down.usable = true ↔
          (own.state = .inService ∨ own.state = .suspect) ∧ m.causes.get l = Causes.none ∧ far.kind = own.kind)) ∧
        ((v.get l).down.usable = true →
          ((v.get l).down.suspect = true ↔ own.state = .suspect) ∧
          (v.get l).down.grade.val = min own.gradeInput.val (maxGrade own.kind)) ∧
        ((v.get l).down.usable = false → (v.get l).down.suspect = false ∧ (v.get l).down.grade = 0) ∧
        ((v.get l).up.usable = true ↔
          (far.state = .inService ∨ far.state = .suspect) ∧ (s.prot.guards.get l).causes = Causes.none ∧
          far.kind = own.kind) ∧
        ((v.get l).up.usable = true →
          ((v.get l).up.suspect = true ↔ far.state = .suspect) ∧ (far.grade.toNat ≤ 3 → (v.get l).up.grade.val = far.grade.toNat)) ∧
        ((v.get l).up.usable = false → (v.get l).up.suspect = false ∧ (v.get l).up.grade = 0)

/-- A planning run ends where its end count is reached: its plan becomes the current plan when its stamp is in force and
the next plan otherwise, gives the queue limits to which every queue is cut, and at the mast end its stamp is the ready
stamp. Nothing else changes (R42, R146, R164, R172). An event command whose condition does not
hold changes nothing (assumption log 8). -/
def Obligations.RunEndPlacesPlan : Prop :=
  ∀ s : State, Runs s →
    ((∀ r : Run, s.planner.run = some r → r.stop ≠ s.count) → exec .planningRunEnd s = .next s) ∧
    ∀ r : Run, s.planner.run = some r → r.stop = s.count →
      ∃ t : State, exec .planningRunEnd s = .next t ∧
        let plan := computePlan r.stamp r.view r.table
        t.planner = (if r.stamp = s.orders.stamp then ⟨none, s.planner.next, some plan, true⟩
          else ⟨none, some plan, s.planner.current, s.planner.fresh⟩) ∧
        t.service.limits = some plan ∧
        t.orders = (if s.role = .mast then { s.orders with ready := some r.stamp } else s.orders) ∧
        t.table.slots = s.table.slots.map (fun x => cutTo (queueLimit (some plan) x.record.number) x) ∧
        (∀ n : Fin 64, queueLimit (some plan) n =
          2 * (((plan.down.entries ++ plan.up.entries).find? fun e => decide (e.number = n)).map (·.slots)).getD 0) ∧
        RaisesOnly [.counterSat] s t ∧
        t = { s with planner := t.planner, orders := t.orders, table := { s.table with slots := t.table.slots },
                     service := { s.service with limits := t.service.limits, exhausted := t.service.exhausted },
                     host := { s.host with flags := t.host.flags } }

/-- A resync full sync starts where one is marked, no order is pending, none is running and the commit procedure is not
ORDERED: its target is the committed generation, and its items are the LIVE records in ascending number, unopened (R152,
R159). That the mark is gone with the start is the model's reading (assumption log 21). An event command whose condition does
not hold changes nothing (assumption log 8). -/
def Obligations.ResyncFullSyncStarts : Prop :=
  ∀ s : State, Runs s →
    (s.role = .truck → s.orders.resync = some .fullSync → s.orders.pending = none → s.orders.fullSync = none →
      ordered s = false →
      exec .fullSync s = .next { s with orders := { s.orders with
        resync := none
        fullSync := some ⟨s.table.generation, s.table.slots.map (·.record), ⟨false, false, false⟩⟩ } } ∧
      (TableInOrder s → ((s.table.slots.map (·.record)).map (·.number)).Pairwise (· < ·))) ∧
    (s.role = .mast ∨ s.orders.resync ≠ some .fullSync ∨ s.orders.pending ≠ none ∨ s.orders.fullSync ≠ none ∨
      ordered s = true → exec .fullSync s = .next s)

/-- The truck end takes its pending order in the epoch's superframe: stamp and view are put in force with the plan, the
needs that it serves end, a commit's change set is applied, the link follows, and ORDER_TAKEN and SERVICE_REDUCED are set
as the plans compare. Nothing else changes (R44, R124, R127, R143, R144, R157). An event command whose condition does not
hold changes nothing (assumption log 8). -/
def Obligations.TruckTakesOrder : Prop :=
  ∀ s : State, Runs s →
    ((s.role = .mast ∨ ∀ o : Order, s.orders.pending = some o → o.epoch ≠ s.count) →
      exec .orderTakeTruck s = .next s) ∧
    ∀ o : Order, s.role = .truck → s.orders.pending = some o → o.epoch = s.count →
      ∃ t : State, exec .orderTakeTruck s = .next t ∧
        t.planner = plannerTaking o.stamp s.planner ∧
        t.link = linkTaking s.link ∧
        flagSet .orderTaken t = true ∧
        flagSet .serviceReduced t = (flagSet .serviceReduced s || someRanksWorse (planInForce s) (planInForce t)) ∧
        flagSet .link t = (flagSet .link s || decide (s.link.state = .syncing)) ∧
        (o.kind ≠ .commit →
          t.table = s.table ∧ t.changes = s.changes ∧ t.service = s.service ∧
          RaisesOnly [.orderTaken, .serviceReduced, .link] s t ∧
          t.orders = { s.orders with
            stamp := o.stamp, view := some o.view, pending := none, decision := none
            fullSync := if o.kind = .fullSync then none else s.orders.fullSync
            resync := if s.orders.resync = some .freshOrder then none else s.orders.resync }) ∧
        (∀ (j : CommitJob) (epoch : Count) (moved : Bool), o.kind = .commit → s.orders.commit = some j →
          j.phase = .ordered epoch moved →
          t.table = ⟨applyEdits .truck s.table.slots s.changes, after s.table.generation⟩ ∧ t.changes = [] ∧
          flagSet .commitDone t = true ∧
          RaisesOnly [.orderTaken, .serviceReduced, .link, .commitDone, .counterSat] s t ∧
          t.orders = { s.orders with
            stamp := o.stamp, view := some o.view, pending := none, decision := none
            resync := if s.orders.resync = some .freshOrder then none else s.orders.resync
            commit := none, done := some ⟨after s.table.generation, epoch, moved, j.code⟩ }) ∧
        t = { s with planner := t.planner, link := t.link, table := t.table, changes := t.changes, orders := t.orders,
                     service := { s.service with exhausted := t.service.exhausted },
                     host := { s.host with flags := t.host.flags } }

/-- The mast end takes its heard order in the epoch's superframe: its stage is applied or adopted where it planned from
one, stamp and view are put in force with the plan, the mismatch condition ends and the link follows. Neither ORDER_TAKEN
nor SERVICE_REDUCED is set, and nothing else changes (R21, R22, R44, R125, R127, R144, R147). The stage area is applied as
it stands at the take (assumption log 41), and the queue limits stay those of the most recently computed plan (assumption
log 42). An event command whose condition does not hold changes nothing (assumption log 8). -/
def Obligations.MastTakesOrder : Prop :=
  ∀ s : State, Runs s →
    ((s.role = .truck ∨ ∀ h : HeardOrder, s.orders.heard = some h → h.order.epoch ≠ s.count) →
      exec .orderTakeMast s = .next s) ∧
    ∀ h : HeardOrder, s.role = .mast → s.orders.heard = some h → h.order.epoch = s.count →
      ∃ t : State, exec .orderTakeMast s = .next t ∧
        t.orders = { s.orders with
          stamp := h.order.stamp, view := some h.order.view, heard := none, mismatch := false } ∧
        t.planner = plannerTaking h.order.stamp s.planner ∧
        t.link = linkTaking s.link ∧
        flagSet .link t = (flagSet .link s || decide (s.link.state = .syncing)) ∧
        RaisesOnly [.link, .counterSat] s t ∧
        (h.source = none ∨ h.source = some .committed →
          t.table = s.table ∧ t.stage = s.stage ∧ t.service = s.service ∧ RaisesOnly [.link] s t) ∧
        (∀ g : Word16, h.source = some .changeStage → s.stage.target = some g →
          t.table = ⟨applyEdits .mast s.table.slots s.stage.items, g⟩ ∧ t.stage = ⟨none, .change, 0, []⟩) ∧
        (∀ g : Word16, h.source = some .fullStage → s.stage.target = some g →
          t.table = ⟨applyEdits .mast [] s.stage.items, g⟩ ∧ t.stage = ⟨none, .change, 0, []⟩) ∧
        (s.stage.target = none → t.table = s.table ∧ t.stage = s.stage ∧ t.service = s.service) ∧
        t = { s with planner := t.planner, link := t.link, table := t.table, stage := t.stage, orders := t.orders,
                     service := { s.service with exhausted := t.service.exhausted },
                     host := { s.host with flags := t.host.flags } }

/-- An ORDERED commit whose order was withdrawn is completed when the count reaches its epoch: the change set is applied,
COMMIT_DONE is set and the record written, with no plan taken and no stamp put in force (R131, R157). An event command whose condition does not
hold changes nothing (assumption log 8). -/
def Obligations.OrderedCommitCompletes : Prop :=
  ∀ (s : State) (j : CommitJob) (epoch : Count) (moved : Bool), Runs s → s.role = .truck → s.orders.commit = some j →
    j.phase = .ordered epoch moved →
    (s.orders.pending = none → epoch = s.count → ∃ t : State, exec .orderedCommitCompletion s = .next t ∧
      t.table = ⟨applyEdits .truck s.table.slots s.changes, after s.table.generation⟩ ∧
      flagSet .commitDone t = true ∧ RaisesOnly [.commitDone, .counterSat] s t ∧
      t = { s with
        table := t.table, changes := []
        orders := { s.orders with commit := none, done := some ⟨after s.table.generation, epoch, moved, j.code⟩ }
        service := { s.service with exhausted := t.service.exhausted }
        host := { s.host with flags := t.host.flags } }) ∧
    (s.orders.pending ≠ none ∨ epoch ≠ s.count → exec .orderedCommitCompletion s = .next s)

/-! ### Planner -/

namespace Sys2Proof.Claims

/-- `r` stands before `q` in placement order: by class, then priority, then number (R30). -/
def placedBefore (r q : Record) : Prop :=
  classRank r.cls < classRank q.cls ∨
  (r.cls = q.cls ∧ (r.priority < q.priority ∨ (r.priority = q.priority ∧ r.number < q.number)))

/-- The first lane of a candidate list that fits an amount (R32). -/
def firstFit (rooms : PerLane LaneRoom) (amount : Nat) : List (Fin 4) → Option (Fin 4)
  | [] => none
  | l :: ls => if amount ≤ (rooms.get l).remaining then some l else firstFit rooms amount ls

/-- Lane A and lane B of a candidate list for an amount: the first lane that fits it, and the first after that one that
fits it too (R32). -/
def firstTwo (rooms : PerLane LaneRoom) (amount : Nat) : List (Fin 4) → Option (Fin 4 × Fin 4)
  | [] => none
  | l :: ls =>
    if amount ≤ (rooms.get l).remaining then (firstFit rooms amount ls).map fun b => (l, b) else firstTwo rooms amount ls

/-- The fields of a record that take part in planning (R39). -/
def planned (r : Record) : Fin 64 × Direction × Class × Fin 16 × Nat × Option Nat × List (Fin 4) :=
  (r.number, r.direction, r.cls, r.priority, r.demand, r.floor, r.preference)

/-- What READ PLAN with the lane form shows of one lane: kind and view marks, capacity, used and remaining slots, and how
many runs the lane carries (R48). -/
def laneShown (p : Plan) (d : Direction) (l : Fin 4) : List Field :=
  let v := viewDir p.view d l
  let room := (p.direction d).rooms.get l
  [.num 1 (kindCode (p.view.get l).kind), .num 1 (if v.usable then 1 else 0), .num 1 (if v.suspect then 1 else 0),
   .num 1 v.grade.val, .num 2 room.capacity, .num 2 (room.capacity - room.remaining), .num 2 room.remaining,
   .num 1 ((((p.direction d).entries.flatMap (·.runs)).filter fun r => decide (r.lane = l)).length)]

/-- How many circuits of a direction a plan serves with a status (R48). -/
def servedShown (p : Plan) (d : Direction) (x : Served) : Nat :=
  ((p.direction d).entries.filter fun e => decide (e.served = x)).length

/-- The slots that the entries of a direction take on a lane. -/
def slotsTaken (es : List Entry) (l : Fin 4) : Nat :=
  (es.map fun e => ((e.runs.filter fun r => decide (r.lane = l)).map fun _ => e.slots).sum).sum

end Sys2Proof.Claims

/-- In every plan and for each direction, every run lies within the capacity of a lane that the view marks usable for the
direction, the two lanes of a dual placement differ, no slot is given to two placements, and the runs of a lane leave no
gap: an entry's run starts where the entries before it end, and the remaining capacity is what they leave (R29, R35,
R37). -/
def Obligations.PlanSlotsApart : Prop :=
  ∀ (stamp : Stamp) (v : View) (table : List Record) (d : Direction), (∀ r ∈ table, r.preference.Nodup) →
    let plan := (computePlan stamp v table).direction d
    (∀ e ∈ plan.entries, ∀ r ∈ e.runs,
      (viewDir v d r.lane).usable = true ∧
      r.first + e.slots ≤ baseSlots (v.get r.lane).kind / 2 ^ min (viewDir v d r.lane).grade.val (maxGrade (v.get r.lane).kind)) ∧
    (∀ e ∈ plan.entries, ∀ a b : SlotRun, e.laneA = some a → e.laneB = some b → a.lane ≠ b.lane) ∧
    (plan.entries.Pairwise fun e f => ∀ r ∈ e.runs, ∀ q ∈ f.runs, r.lane = q.lane → r.first + e.slots ≤ q.first) ∧
    (∀ (es fs : List Entry) (e : Entry), plan.entries = es ++ e :: fs → ∀ r ∈ e.runs, r.first = slotsTaken es r.lane) ∧
    ∀ l : Fin 4,
      (plan.rooms.get l).capacity = (if (viewDir v d l).usable then
        baseSlots (v.get l).kind / 2 ^ min (viewDir v d l).grade.val (maxGrade (v.get l).kind) else 0) ∧
      slotsTaken plan.entries l + (plan.rooms.get l).remaining = (plan.rooms.get l).capacity

/-- A plan gives every LIVE record of the planned table exactly one entry, in the direction of its record, and numbers the
entries of a direction from 0 in placement order (R30, R37). -/
def Obligations.PlacementOrderOfEntries : Prop :=
  ∀ (stamp : Stamp) (v : View) (table : List Record) (d : Direction), (table.map (·.number)).Nodup →
    let plan := (computePlan stamp v table).direction d
    (plan.entries.map (·.number)).Perm ((table.filter fun r => decide (r.direction = d)).map (·.number)) ∧
    plan.entries.map (·.position) = List.range plan.entries.length ∧
    (placementOrder d table).Pairwise placedBefore ∧
    plan.entries.map (fun e => (e.number, e.cls)) = (placementOrder d table).map (fun r => (r.number, r.cls)) ∧
    (computePlan stamp v table).live = table.length ∧ (computePlan stamp v table).stamp = stamp ∧
    (computePlan stamp v table).view = v

/-- The candidate lanes of a circuit and their order: the usable lanes of its preference in its order, or every usable lane
in ascending number, with the suspect lanes moved behind the others; and the steps by which a circuit is placed on them,
first success first: two lanes at the demand, two at the floor, one at the demand, one at the floor, SHED; a STANDARD
circuit has the single steps alone, an EXTRA circuit one lane at its demand or none (R31 to R34, R36). -/
def Obligations.PlacementSteps : Prop :=
  (∀ (v : View) (r : Record),
    let wanted := if r.preference = [] then [0, 1, 2, 3] else r.preference
    (∀ l : Fin 4, l ∈ candidates v r ↔ l ∈ wanted ∧ (viewDir v r.direction l).usable = true) ∧
    (r.preference.Nodup → (candidates v r).Nodup) ∧
    (∃ clear suspect : List (Fin 4), candidates v r = clear ++ suspect ∧ clear.Sublist wanted ∧ suspect.Sublist wanted ∧
      (∀ l ∈ clear, (viewDir v r.direction l).suspect = false) ∧
      ∀ l ∈ suspect, (viewDir v r.direction l).suspect = true) ∧
    ∀ (rs : List Record) (position : Nat) (rooms : PerLane LaneRoom),
      (placeAll v (r :: rs) position rooms).entries.head? =
        some (entryFor rooms position r (choosePlacing rooms (candidates v r) r))) ∧
  ∀ (rooms : PerLane LaneRoom) (lanes : List (Fin 4)) (r : Record),
    let two := fun amount => firstTwo rooms amount lanes
    let one := fun amount => firstFit rooms amount lanes
    (r.cls = .prot → choosePlacing rooms lanes r =
      match two r.demand, r.floor.bind two, one r.demand, r.floor.bind one with
      | some (a, b), _, _, _ => ⟨.fullDual, some a, some b, r.demand⟩
      | none, some (a, b), _, _ => ⟨.floorDual, some a, some b, r.floor.getD 0⟩
      | none, none, some a, _ => ⟨.fullSingle, some a, none, r.demand⟩
      | none, none, none, some a => ⟨.floorSingle, some a, none, r.floor.getD 0⟩
      | none, none, none, none => ⟨.shed, none, none, 0⟩) ∧
    (r.cls = .standard → choosePlacing rooms lanes r =
      match one r.demand, r.floor.bind one with
      | some a, _ => ⟨.fullSingle, some a, none, r.demand⟩
      | none, some a => ⟨.floorSingle, some a, none, r.floor.getD 0⟩
      | none, none => ⟨.shed, none, none, 0⟩) ∧
    (r.cls = .extra → choosePlacing rooms lanes r =
      match one r.demand with
      | some a => ⟨.fullSingle, some a, none, r.demand⟩
      | none => ⟨.shed, none, none, 0⟩)

/-- The plan is a function of the planning fields of the table's records and the view: ports take no part, the order in
which the records are listed takes none, and the stamp is carried alone (R39). -/
def Obligations.PlanIgnoresPortsAndOrder : Prop :=
  ∀ (stamp other : Stamp) (v : View) (t u : List Record),
    (t.map (·.number)).Nodup → (t.map planned).Perm (u.map planned) →
    computePlan stamp v t = { computePlan other v u with stamp := stamp }

/-- What READ PLAN answers in its two forms for a record that is none, a run in progress, a circuit without an entry and
one with an entry (R47, R48). How a run that is absent is laid out is assumption log 6, and the request code of a NONE
assumption log 47. -/
def Obligations.ReadPlanAnswers : Prop :=
  ∀ (s : State) (sel num : Byte), Runs s →
    (2 ≤ sel.toNat ∨ 64 ≤ num.toNat →
      exec (.readPlanCircuit [0, sel, num]) s = .next (respond 0x18 .badField [] s)) ∧
    (2 ≤ sel.toNat ∨ 2 ≤ num.toNat →
      exec (.readPlanLane [1, sel, num]) s = .next (respond 0x18 .badField [] s)) ∧
    (∀ (c : Instr), (c = .readPlanCircuit [0, sel, num] ∧ num.toNat < 64) ∨
        (c = .readPlanLane [1, sel, num] ∧ num.toNat < 2) →
      (sel = 0 → s.planner.current = none → exec c s = .next (respond 0x18 .none_ [] s)) ∧
      (sel = 1 → s.planner.next = none → s.planner.run = none → exec c s = .next (respond 0x18 .none_ [] s)) ∧
      ∀ r : Run, sel = 1 → s.planner.next = none → s.planner.run = some r →
        exec c s = .next (respond 0x18 .busy [.bytes (stampBytes r.stamp), .num 4 (r.stop - s.count).toNat] s)) ∧
    ∀ p : Plan, (sel = 0 ∧ s.planner.current = some p) ∨ (sel = 1 ∧ s.planner.next = some p) →
      let mark := markCode (decide (sel = 0) && (planInForce s).isSome)
      (∀ n : Fin 64, num = BitVec.ofNat 8 n.val →
        (p.entry n = none → exec (.readPlanCircuit [0, sel, num]) s =
          .next (respond 0x18 .noRecord [.bytes (stampBytes p.stamp)] s)) ∧
        ∀ (d : Direction) (e : Entry), p.entry n = some (d, e) → exec (.readPlanCircuit [0, sel, num]) s =
          .next (respond 0x18 .ok (([.bytes (stampBytes p.stamp), .num 1 mark, .num 1 (directionCode d),
            .num 1 (classCode e.cls), .num 1 e.number.val, .num 1 e.position, .num 1 (servedCode e.served)] : List Field) ++
            runFields e.laneA ++ runFields e.laneB ++ ([.num 2 e.slots] : List Field)) s)) ∧
      ∀ d : Direction, num = BitVec.ofNat 8 (directionCode d) →
        exec (.readPlanLane [1, sel, num]) s = .next (respond 0x18 .ok
          (([.bytes (stampBytes p.stamp), .num 1 mark, .num 2 p.stamp.generation.toNat, .num 1 p.live] : List Field) ++
           laneShown p d 0 ++ laneShown p d 1 ++ laneShown p d 2 ++ laneShown p d 3 ++
           ([.num 1 (servedShown p d .fullDual), .num 1 (servedShown p d .floorDual),
             .num 1 (servedShown p d .fullSingle), .num 1 (servedShown p d .floorSingle),
             .num 1 (servedShown p d .shed)] : List Field)) s)

/-! ### Lane framers -/

namespace Sys2Proof.Claims

/-- A header that the lane accepts arrived: at the mast end outside adoption its count must be this end's (R53, R57). -/
def acceptsHeader (s : State) (l : Fin 4) (input : LaneInput) (count : Count) (stamp : Stamp) : Prop :=
  ∃ a : Arrival, input.arrival = some a ∧ a.lag ≤ 4 ∧ headerOf l a.bytes = some (count, stamp) ∧
    (s.role = .truck ∨ s.link.state = .standby ∨ s.link.state = .calling ∨ count = s.count)

/-- Nothing arrived that could have a valid header (R57). -/
def headerMissing (s : State) (l : Fin 4) (input : LaneInput) : Prop :=
  ∀ a : Arrival, input.arrival = some a → a.lag ≤ 4 → headerOf l a.bytes = none ∨
    (s.role = .mast ∧ s.link.state ≠ .standby ∧ s.link.state ≠ .calling ∧
      (headerOf l a.bytes).map (·.1) ≠ some s.count)

/-- The lane is in an aligned state (3.5). -/
abbrev isAligned (x : LaneState) : Prop := x = .recovering ∨ x = .admitting ∨ x = .inService ∨ x = .suspect

/-- State, valid-header run, miss run and hold count of a lane after one evaluation, from the lane before it, SIGNAL as
sampled, whether the header was valid and the superframe clean, and score and hold target as the evaluation has them: the
loss of alignment first, then the change of state by the score, then the hold (R61, R62, R64, R66, R67). -/
def laneMoved (old : Lane) (signal valid clean : Bool) (score target : Nat) : LaneState × Nat × Nat × Nat :=
  let misses := if valid then 0 else old.missRun + 1
  match old.state with
  | .off => (.off, old.validRun, old.missRun, old.holdCount)
  | .quarantined => (.quarantined, old.validRun, old.missRun, old.holdCount)
  | .dark => if signal then (.aligning, 0, 0, 0) else (.dark, old.validRun, old.missRun, old.holdCount)
  | .aligning =>
    if signal = false then (.dark, 0, 0, 0)
    else if valid = false then (.aligning, 0, old.missRun, old.holdCount)
    else if old.validRun = 0 then (.aligning, 1, old.missRun, old.holdCount)
    else (if score ≤ 128 then .admitting else .recovering, 0, 0, 0)
  | state =>
    if 4 ≤ misses then (if signal then .aligning else .dark, 0, 0, 0)
    else
      let stays := (state, old.validRun, misses, old.holdCount)
      match state with
      | .inService => if 3072 ≤ score then (.recovering, 0, misses, 0)
          else if 1024 ≤ score then (.suspect, old.validRun, misses, old.holdCount) else stays
      | .suspect => if 3072 ≤ score then (.recovering, 0, misses, 0)
          else if score ≤ 512 then (.inService, old.validRun, misses, old.holdCount) else stays
      | .recovering => if score ≤ 128 then (.admitting, old.validRun, misses, 0) else stays
      | _ => if 128 < score then (.recovering, 0, misses, 0)
          else if clean = false then (.admitting, old.validRun, misses, 0)
          else if old.holdCount + 1 < target then (.admitting, old.validRun, misses, old.holdCount + 1)
          else (.inService, 0, misses, 0)

/-- The four counters of a lane after a superframe whose header, if it was valid, and whose number of damaged blocks are
given (R60, R177). -/
def laneCounted (inForce : Stamp) (header : Option (Count × Stamp)) (damaged : Nat) (c : LaneCounters) : LaneCounters where
  headersLost := saturating 4294967295 c.headersLost (if header = none then 1 else 0)
  receivedValid := saturating 4294967295 c.receivedValid (if header = none then 0 else 1)
  stampMismatch := saturating 4294967295 c.stampMismatch (match header with
    | some (_, stamp) => if stamp = inForce then 0 else 1
    | none => 0)
  damagedBlocks := saturating 4294967295 c.damagedBlocks damaged

/-- Some counter of the lane has come to its limit (R60, R177). -/
def laneSaturated (old new : LaneCounters) : Bool :=
  saturates old.headersLost new.headersLost || saturates old.receivedValid new.receivedValid ||
    saturates old.stampMismatch new.stampMismatch || saturates old.damagedBlocks new.damagedBlocks

/-- The state of a lane after one command, with what the command may touch beside that lane: the count, what the lane
hands on, and flags (R53, R59, R69). -/
def oneLaneEvaluated (l : Fin 4) (s t : State) : Prop :=
  (∀ k : Fin 4, k ≠ l → t.lanes.get k = s.lanes.get k ∧ t.handed.get k = s.handed.get k) ∧
  RaisesOnly [.lane, .counterSat] s t ∧
  t = { s with lanes := t.lanes, handed := t.handed, count := t.count, host := { s.host with flags := t.host.flags } }

/-- The header of a lane is judged valid and its superframe has no damaged block. -/
def cleanArrival (s : State) (l : Fin 4) (input : LaneInput) : Prop :=
  (judgeLane s l input).valid = true ∧ (judgeLane s l input).damaged = 0

end Sys2Proof.Claims

/-- LANE SETUP by the lane's state: an OFF lane takes the kind, and enters DARK, or QUARANTINED where its cause set is not
empty, when it is enabled; any other lane is disabled into OFF with its score and runs at 0 and its counters kept, and is
refused when the request enables it. LANE is set exactly at a change of state (R50, R51, R69). -/
def Obligations.LaneSetupTable : Prop :=
  ∀ (s : State) (l : Fin 4) (kind : Kind) (lb kb eb : Byte), Runs s →
    (4 ≤ lb.toNat ∨ 3 ≤ kb.toNat ∨ 2 ≤ eb.toNat →
      exec (.laneSetup [lb, kb, eb]) s = .next (respond 0x06 .badField [] s)) ∧
    (lb.toNat = l.val → kb.toNat = kindCode kind →
      let lane := s.lanes.get l
      let put := fun (x : Lane) => { s with lanes := s.lanes.set l x }
      let entered := if (s.prot.guards.get l).causes = Causes.none then LaneState.dark else LaneState.quarantined
      (lane.state = .off → eb = 0 → exec (.laneSetup [lb, kb, eb]) s =
        .next (respond 0x06 .ok [.num 1 0, .num 1 (kindCode kind), .num 1 0] (put { lane with enable := false, kind := kind }))) ∧
      (lane.state = .off → eb = 1 → exec (.laneSetup [lb, kb, eb]) s =
        .next (respond 0x06 .ok [.num 1 1, .num 1 (kindCode kind), .num 1 (laneStateCode entered)]
          (raise .lane (put { lane with enable := true, kind := kind, state := entered })))) ∧
      (lane.state ≠ .off → eb = 0 → exec (.laneSetup [lb, kb, eb]) s =
        .next (respond 0x06 .ok [.num 1 0, .num 1 (kindCode kind), .num 1 0] (raise .lane (put { lane with
          enable := false, kind := kind, state := .off, score := 0, validRun := 0, missRun := 0, holdCount := 0 })))) ∧
      (lane.state ≠ .off → eb = 1 → exec (.laneSetup [lb, kb, eb]) s =
        .next (respond 0x06 .badState
          [.num 1 (markCode lane.enable), .num 1 (kindCode lane.kind), .num 1 (laneStateCode lane.state)] s)))

/-- The levels that the board gives the part: the GRADE input, whose flag is set exactly when the effective grade of a lane
that is not OFF changes, and the supply, whose flag is set at every change between NORMAL and DEAD_BAND; and the grade
output lines that the part gives: a side shows the served status of the circuit bound to it in the plan in force, and IDLE
where it is not bound or no plan is in force (R49, R93, R175). That a circuit without an entry in the plan in force shows
IDLE is the model's choice (assumption log 46). An event command whose condition does not hold changes nothing (assumption
log 8). -/
def Obligations.BoardLevelsFollowed : Prop :=
  (∀ (s : State) (l : Fin 4) (g : Fin 4),
    let lane := s.lanes.get l
    let t := { s with lanes := s.lanes.set l { lane with gradeInput := g } }
    exec (.gradeChange l g) s = .next (
      if lane.state ≠ .off ∧ min g.val (maxGrade lane.kind) ≠ min lane.gradeInput.val (maxGrade lane.kind)
      then raise .grade t else t)) ∧
  ∀ s : State, Runs s →
    (s.prot.supply = .normal → exec .supplyBelowWorkingLevel s =
      .next (raise .supply { s with prot := { s.prot with supply := .deadBand } }) ∧
      exec .supplyAboveHysteresis s = .next s) ∧
    (s.prot.supply = .deadBand → exec .supplyAboveHysteresis s =
      .next (raise .supply { s with prot := { s.prot with supply := .normal } }) ∧
      exec .supplyBelowWorkingLevel s = .next s) ∧
    ∀ (side : Side) (port : Fin 32),
      (boundSlot s side port = none ∨ planInForce s = none → gradeOutput s side port = ⟨.idle, false⟩) ∧
      (∀ (x : Slot) (p : Plan), boundSlot s side port = some x → planInForce s = some p →
        (p.direction x.record.direction).entry x.record.number = none → gradeOutput s side port = ⟨.idle, false⟩) ∧
      ∀ (x : Slot) (p : Plan) (e : Entry), boundSlot s side port = some x → planInForce s = some p →
        (p.direction x.record.direction).entry x.record.number = some e →
        gradeOutput s side port = (match e.served with
          | .fullDual => ⟨.full, true⟩
          | .floorDual => ⟨.floor, true⟩
          | .fullSingle => ⟨.full, false⟩
          | .floorSingle => ⟨.floor, false⟩
          | .shed => ⟨.shed, false⟩)

/-- One evaluation of a lane and the three of its transitions that the table names. An evaluation counts the superframe on
the lane's counters, takes SIGNAL and the hold target, and moves the lane between its states by header, score and hold. A boundary makes one such
evaluation of each lane that has made none in the superframe, in ascending number, and none of any other (R52, R66). The
named commands complete where their condition holds, in the state in which an order whose epoch is reached has been taken,
since the superframes received from the epoch on are judged by its stamp: a second valid header in a row aligns an ALIGNING
lane and gives an adopting mast end its count unless another lane stands aligned (a higher lane aligned in this same
superframe yields to it), a fourth missing header takes an aligned lane out of alignment, and a clean superframe that
completes the readmission hold takes an ADMITTING lane into service (R53, R60 to R62, R64, R66, R67, R69, R143, R177). Each
command stands for the lane's whole evaluation (assumption log 10), and a lane that loses alignment in the same superframe
counts by the order of the evaluations (assumption log 51). -/
def Obligations.LaneEvaluationsComplete : Prop :=
  (∀ (s : State) (inputs : PerLane LaneInput), evaluateAll inputs s =
    [0, 1, 2, 3].foldl (fun t l => if t.handed.get l = none then evaluateLane l (inputs.get l) t else t) s) ∧
  (∀ (s : State) (l : Fin 4) (input : LaneInput),
    let lane := s.lanes.get l
    let j := judgeLane s l input
    let t := evaluateLane l input s
    let new := t.lanes.get l
    oneLaneEvaluated l s t ∧ t.handed.get l ≠ none ∧
    (lane.state = .off → new = { lane with signal := input.signal } ∧ t.count = s.count ∧ t.host = s.host) ∧
    (lane.state ≠ .off →
      new.counters = laneCounted s.orders.stamp j.header j.damaged lane.counters ∧
      new.holdTarget = (if s.prot.stormOn || farStormOn s then 4 * s.params.readmitHold else s.params.readmitHold) ∧
      (new.state, new.validRun, new.missRun, new.holdCount) =
        laneMoved lane input.signal j.header.isSome (j.header.isSome && decide (j.damaged = 0)) new.score new.holdTarget ∧
      new = { lane with
        signal := input.signal, score := new.score, holdTarget := new.holdTarget, counters := new.counters
        state := new.state, validRun := new.validRun, missRun := new.missRun, holdCount := new.holdCount } ∧
      flagSet .lane t = (flagSet .lane s || decide (new.state ≠ lane.state)) ∧
      flagSet .counterSat t = (flagSet .counterSat s || laneSaturated lane.counters new.counters))) ∧
  ∀ (r : State) (l : Fin 4) (input : LaneInput), Runs r →
    let s := judgeTakeMast (judgeTakeTruck r)
    exec .orderTakeTruck r = .next (judgeTakeTruck r) ∧ exec .orderTakeMast (judgeTakeTruck r) = .next s ∧
    ((∀ o : Order, r.orders.pending = some o → o.epoch ≠ r.count) →
      (∀ h : HeardOrder, r.orders.heard = some h → h.order.epoch ≠ r.count) → s = r) ∧
    let lane := s.lanes.get l
    (∀ (count : Count) (stamp : Stamp), s.handed.get l = none → lane.state = .aligning → input.signal = true →
      1 ≤ lane.validRun → acceptsHeader s l input count stamp →
      ∃ t : State, exec (.alignment l input) r = .next t ∧ t = evaluateLane l input s ∧ oneLaneEvaluated l s t ∧
        (t.lanes.get l).state = (if (t.lanes.get l).score ≤ 128 then .admitting else .recovering) ∧
        (t.lanes.get l).holdCount = 0 ∧ (t.lanes.get l).missRun = 0 ∧ flagSet .lane t = true ∧
        t.count = (if s.role = .mast ∧ (s.link.state = .standby ∨ s.link.state = .calling) ∧
          (∀ k : Fin 4, k ≠ l → isAligned (s.lanes.get k).state →
            l < k ∧ ∃ h : HandOver, s.handed.get k = some h ∧ h.gained = true) then count else s.count)) ∧
    (s.handed.get l = none → isAligned lane.state → 3 ≤ lane.missRun → headerMissing s l input →
      ∃ t : State, exec (.alignmentLoss l input) r = .next t ∧ t = evaluateLane l input s ∧ oneLaneEvaluated l s t ∧
        t.count = s.count ∧ (t.lanes.get l).state = (if input.signal then .aligning else .dark) ∧
        (t.lanes.get l).validRun = 0 ∧ flagSet .lane t = true) ∧
    (s.handed.get l = none → lane.state = .admitting → lane.score ≤ 129 → cleanArrival s l input →
      (if s.prot.stormOn || farStormOn s then 4 * s.params.readmitHold else s.params.readmitHold) ≤ lane.holdCount + 1 →
      ∃ t : State, exec (.readmissionHoldComplete l input) r = .next t ∧ t = evaluateLane l input s ∧
        oneLaneEvaluated l s t ∧ t.count = s.count ∧ (t.lanes.get l).state = .inService ∧ flagSet .lane t = true)

/-- One evaluation of a lane: the score of a lane that is not OFF falls by its decay and rises by 64 for a damaged block and
256 for a superframe without a valid header, up to 4,095; an OFF lane keeps its score; blocks that are not judged raise no
score; every superframe of a QUARANTINED and of a DARK lane is one without a valid header (R63). -/
def Obligations.ScoreFollowsTheSuperframe : Prop :=
  ∀ (s : State) (l : Fin 4) (input : LaneInput),
    let lane := s.lanes.get l
    let j := judgeLane s l input
    let decay := if 0 < lane.score then lane.score / 256 + 1 else 0
    let sum := lane.score - decay + (64 * j.damaged + if j.header.isSome then 0 else 256)
    let t := evaluateLane l input s
    (lane.state ≠ .off → (t.lanes.get l).score = (if 4095 < sum then 4095 else sum)) ∧
    (lane.state = .off → (t.lanes.get l).score = lane.score) ∧
    (lane.state ≠ .off → j.damaged = 0 → j.header.isSome = true →
      (lane.score = 0 → (t.lanes.get l).score = 0) ∧
      (0 < lane.score → lane.score ≤ 4095 → (t.lanes.get l).score < lane.score)) ∧
    (lane.state ≠ .off → (t.lanes.get l).score ≤ 4095) ∧
    (lane.state = .quarantined ∨ lane.state = .dark → j.damaged = 0 ∧ j.header = none) ∧
    (s.orders.view = none → j.damaged = 0) ∧
    ∀ (c : Count) (stamp : Stamp), j.header = some (c, stamp) → stamp ≠ s.orders.stamp → j.damaged = 0

/-- What READ LANE answers: configuration, PHY inputs and state, the run or hold that the state keeps, sending, layout,
counters, protection and the far end's report (R73). The driver state's byte is a value that the manual leaves open
(assumption log 5). How a conditional item is laid out is
assumption log 6, and where the driver-fault count stands assumption log 43. -/
def Obligations.ReadLaneAnswers : Prop :=
  ∀ (s : State) (b : Byte), Runs s →
    (4 ≤ b.toNat → exec (.readLane [b]) s = .next (respond 0x20 .badField [] s)) ∧
    ∀ l : Fin 4, b.toNat = l.val →
      let lane := s.lanes.get l
      let g := s.prot.guards.get l
      let grade := min lane.gradeInput.val (maxGrade lane.kind)
      exec (.readLane [b]) s = .next (respond 0x20 .ok
        (([shownMark lane.enable, .num 1 (kindCode lane.kind), shownMark lane.signal, .num 1 lane.gradeInput.val,
           .num 1 grade, .num 2 (baseSlots lane.kind / 2 ^ grade), .num 1 (laneStateCode lane.state),
           .num 2 lane.score, shownMark (decide (isAligned lane.state))] : List Field) ++
         shown 1 (if lane.state = .aligning then some lane.validRun else none) (fun n => [.num 1 n]) ++
         shown 1 (if isAligned lane.state then some lane.missRun else none) (fun n => [.num 1 n]) ++
         shown 8 (if lane.state = .admitting then some lane else none) (fun x => [.num 4 x.holdCount, .num 4 x.holdTarget]) ++
         ([shownMark lane.sending] : List Field) ++
         shown 2 s.orders.view (fun v => [.num 2 (layoutCapacity v (sentDirection s.role) l)]) ++
         shown 2 s.orders.view (fun v => [.num 2 (layoutCapacity v (receivedDirection s.role) l)]) ++
         ([.num 4 lane.counters.headersLost, .num 4 lane.counters.receivedValid, .num 4 lane.counters.stampMismatch,
           .num 4 lane.counters.damagedBlocks, .num 1 (causesCode g.causes),
           .uncoded (.driverState (driverStateIndex (driverState s l))), .num 1 g.faults] : List Field) ++
         shown 4 (match s.role with
           | .mast => s.chan.fromTruck.map fun m => m.1.lanes.get l
           | .truck => s.chan.fromMast.map fun m => m.1.lanes.get l) (fun r =>
           [.num 1 (kindCode r.kind), .num 1 (laneStateCode r.state), .num 1 r.grade.toNat, .num 1 r.score16.toNat])) s)

/-- READ COUNTERS in its four forms answers the counters as they stand, and with the clear option sets to zero those that
its form clears and no others (R81, R178, R186). -/
def Obligations.CountersReadAndCleared : Prop :=
  ∀ (s : State) (b : Byte), Runs s →
    (∀ n : Fin 64, b = BitVec.ofNat 8 n.val → ∀ x : Slot, slotAt s.table.slots n = some x →
      ∃ fields : List Field,
        fields = [.uncoded (.slotState true), .num 4 x.counters.sent, .num 4 x.counters.fill, .num 4 x.counters.dropped,
          .num 4 x.counters.delivered, .num 4 x.counters.lost, .num 4 x.counters.rescued] ∧
        exec (.readCountersCircuit [0, b, 0]) s = .next (respond 0x21 .ok fields s) ∧
        exec (.readCountersCircuit [0, b, 1]) s = .next (respond 0x21 .ok fields { s with table := { s.table with
          slots := s.table.slots.map fun y =>
            if y.record.number = n then { y with counters := ⟨0, 0, 0, 0, 0, 0⟩ } else y } })) ∧
    (∀ n : Fin 64, b = BitVec.ofNat 8 n.val → slotAt s.table.slots n = none →
      exec (.readCountersCircuit [0, b, 1]) s = .next (respond 0x21 .ok
        [.uncoded (.slotState false), .num 4 0, .num 4 0, .num 4 0, .num 4 0, .num 4 0, .num 4 0] s)) ∧
    (64 ≤ b.toNat → exec (.readCountersCircuit [0, b, 1]) s = .next (respond 0x21 .badField [] s)) ∧
    (∃ fields : List Field,
      fields = [.num 4 s.service.stray, .num 2 ((s.table.slots.map fun x => x.queue.length).sum),
        .num 1 (markCode s.service.exhausted)] ∧
      exec (.readCountersEnd [1, 0, 0]) s = .next (respond 0x21 .ok fields s) ∧
      exec (.readCountersEnd [1, 0, 1]) s =
        .next (respond 0x21 .ok fields { s with service := { s.service with stray := 0 } })) ∧
    (∀ l : Fin 4, b = BitVec.ofNat 8 l.val → ∃ fields : List Field,
      fields = [.num 4 (s.lanes.get l).counters.headersLost, .num 4 (s.lanes.get l).counters.receivedValid,
        .num 4 (s.lanes.get l).counters.stampMismatch, .num 4 (s.lanes.get l).counters.damagedBlocks] ∧
      exec (.readCountersLane [2, b, 0]) s = .next (respond 0x21 .ok fields s) ∧
      exec (.readCountersLane [2, b, 1]) s = .next (respond 0x21 .ok fields
        { s with lanes := s.lanes.set l { s.lanes.get l with counters := ⟨0, 0, 0, 0⟩ } })) ∧
    (4 ≤ b.toNat → exec (.readCountersLane [2, b, 1]) s = .next (respond 0x21 .badField [] s)) ∧
    ∃ fields : List Field,
      fields = [.num 1 s.prot.inputs.l0.count, .num 1 s.prot.inputs.l1.count, .num 1 s.prot.inputs.l2.count,
        .num 1 s.prot.inputs.l3.count, .num 1 s.prot.guards.l0.faults, .num 1 s.prot.guards.l1.faults,
        .num 1 s.prot.guards.l2.faults, .num 1 s.prot.guards.l3.faults] ∧
      exec (.readCountersProtection [3, 0, 0]) s = .next (respond 0x21 .ok fields s) ∧
      ∃ t : State, exec (.readCountersProtection [3, 0, 1]) s = .next t ∧ t.host.held = some ⟨0x21, .ok, fields⟩ ∧
        (∀ i : Fin 4, t.prot.inputs.get i = ⟨0, (s.prot.inputs.get i).refractory⟩ ∧
          t.prot.guards.get i = { s.prot.guards.get i with faults := 0 }) ∧
        t = { s with prot := { s.prot with inputs := t.prot.inputs, guards := t.prot.guards }
                     host := { s.host with held := t.host.held } }

namespace Sys2Proof.Claims

/-- The events that a boundary takes first where they are due: the protection timers, the call schedule, the end of a planning
run, the cycle end and holdover's expiry, and the epochs (assumption log 2). -/
def dueFirst : List Instr :=
  ([0, 1, 2, 3] : List (Fin 4)).map .strikeHoldExpiry ++ [.stormDecayExpiry] ++
  ([0, 1, 2, 3] : List (Fin 4)).map .blankingExpiry ++ ([0, 1, 2, 3] : List (Fin 4)).map .driverRetryExpiry ++
  [.callWindowExpiry, .gapExpiry, .recallWaitExpiry, .planningRunEnd, .controlCycleEnd, .holdoverExpiry, .orderTakeTruck,
   .orderTakeMast, .orderedCommitCompletion]

/-- A timer with one boundary less; one that is stopped stays stopped (R77, R121). -/
def oneLess (timer : Option Nat) : Option Nat := timer.map fun n => n - 1

/-- The slot of a circuit after a superframe in which its entry takes cells: as many as the slot count from the oldest end,
or all it holds; those taken are counted on sent, the slots left on fill (R167). -/
def drawn (slots : Nat) (x : Slot) : Slot := { x with
  queue := x.queue.drop slots
  counters := { x.counters with
    sent := min 4294967295 (x.counters.sent + min slots x.queue.length)
    fill := min 4294967295 (x.counters.fill + (slots - min slots x.queue.length)) } }

/-- A slot of a record's run in a superframe: the cell of its position, oldest first, or FILL once the queue has no more and
for a number that is not LIVE (R167). -/
def sentAt (slots : List Slot) (n : Fin 64) (k : Nat) : PayloadSlot :=
  match (slotAt slots n).bind fun x => x.queue[k]? with
  | some cell => .data cell
  | none => .fill

end Sys2Proof.Claims

/-- A superframe boundary at either end: the count advances by 1 where it runs, from the count of the superframe completed
or, at the mast end alone, from one adopted in it; a framer sends exactly on the lanes that are neither OFF nor QUARANTINED
outside STANDBY, and every superframe carries the count of the superframe completed, the stamp in force, the same control slot
on all lanes, which is the next half still to be sent or empty, and the slots of the layout view (R53 to R56, R99, R101). The
events that are due are taken first, as their commands take them, and at the end every running timer has one boundary less (R42,
R77, R88, R112, R121, R128, R140, R143, R147, R157, R159). The sending takes from each circuit of the plan in force
that has a lane that sends its cells, oldest first, once for both runs of a dual placement, and counts cells sent and slots
filled; every other slot carries FILL; with no plan in force, or in BLANK, no cell is taken and every slot carries FILL (R54,
R55, R167, R168, R177). The order of the work within the superframe is the model's (assumption logs 2 and 3). -/
def Obligations.BoundarySendsAndCounts : Prop :=
  (∀ u : State,
    let t := sendSuperframe u
    (∀ (l : Fin 4) (f : SentFrame), t.sent.get l = some f →
      f.slots.length = ((u.orders.view.map fun v => layoutCapacity v (sentDirection u.role) l).getD 0)) ∧
    (∀ (l : Fin 4) (f : SentFrame), t.sent.get l = some f →
      f.control = (u.chan.toSend.head?).getD (List.replicate 60 0)) ∧
    (∀ l : Fin 4, t.lanes.get l = { u.lanes.get l with sending := (t.sent.get l).isSome } ∧
      t.prot.guards.get l = (if (t.sent.get l).isSome then u.prot.guards.get l
        else { u.prot.guards.get l with blanking := none, overcurrent := false })) ∧
    t.prot = { u.prot with guards := t.prot.guards } ∧
    t.chan = { u.chan with toSend := u.chan.toSend.tail } ∧
    t.service = { u.service with exhausted := u.service.exhausted && decide (12288 < occupancy t) } ∧
    RaisesOnly [.counterSat] u t ∧
    t = { u with sent := t.sent, lanes := t.lanes, prot := t.prot, chan := t.chan, service := t.service
                 table := { u.table with slots := t.table.slots }, host := { u.host with flags := t.host.flags } } ∧
    (planInForce u = none ∨ inBlank u = true →
      t.table = u.table ∧ t.host = u.host ∧
      ∀ (l : Fin 4) (f : SentFrame), t.sent.get l = some f → ∀ x ∈ f.slots, x = .fill) ∧
    ∀ (stamp : Stamp) (v : View) (table : List Record), planInForce u = some (computePlan stamp v table) →
      u.orders.view = some v → inBlank u = false → TableInOrder u →
      (table.map (·.number)).Nodup → (∀ r ∈ table, r.preference.Nodup) →
      let es := ((computePlan stamp v table).direction (sentDirection u.role)).entries
      let goes := fun e : Entry => e.runs.any fun r => (t.sent.get r.lane).isSome
      t.table.slots = u.table.slots.map (fun x =>
        match es.find? fun e => decide (e.number = x.record.number) && goes e with
        | some e => drawn e.slots x
        | none => x) ∧
      flagSet .counterSat t = (flagSet .counterSat u || u.table.slots.any fun x =>
        es.any fun e => decide (e.number = x.record.number) && goes e &&
          (saturates x.counters.sent (drawn e.slots x).counters.sent ||
           saturates x.counters.fill (drawn e.slots x).counters.fill)) ∧
      ∀ (l : Fin 4) (f : SentFrame), t.sent.get l = some f →
        (∀ e ∈ es, ∀ r ∈ e.runs, r.lane = l → ∀ k < e.slots,
          f.slots[r.first + k]? = some (sentAt u.table.slots e.number k)) ∧
        ∀ i < f.slots.length, (∀ e ∈ es, ∀ r ∈ e.runs, r.lane = l → ¬ (r.first ≤ i ∧ i < r.first + e.slots)) →
          f.slots[i]? = some .fill) ∧
  (∀ u : State,
    let t := advance u
    t.count = (if u.counting then u.count + 1 else u.count) ∧
    (∀ l : Fin 4, t.prot.guards.get l = { u.prot.guards.get l with
      strikeHold := oneLess (u.prot.guards.get l).strikeHold, retry := oneLess (u.prot.guards.get l).retry
      blanking := oneLess (u.prot.guards.get l).blanking } ∧ t.handed.get l = none) ∧
    t = { u with
      count := t.count, handed := t.handed, planner := { u.planner with fresh := false }
      prot := { u.prot with guards := t.prot.guards, stormDecay := oneLess u.prot.stormDecay }
      link := { u.link with timer := oneLess u.link.timer }
      chan := { u.chan with cycleDue := decide (t.count.toNat % u.params.c = 0) } }) ∧
  (∀ u : State, Runs u → settle u = dueFirst.foldl ran u ∧ judgeFullSync u = ran u .fullSync ∧
    judgeIssue u = ran u .orderIssue) ∧
  ∀ (s : State) (inputs : PerLane LaneInput), Runs s →
    ∃ t : State, exec (.superframeBoundary inputs) s = .next t ∧
      t = advance (sendSuperframe (judgeIssue (judgeFullSync (receiveControl (deliverSuperframe
        (evaluateAll inputs (settle s))))))) ∧
      let completed := if s.counting then t.count - 1 else t.count
      (s.role = .truck → completed = s.count ∧ t.params = s.params) ∧
      (s.role = .mast → completed = s.count ∨ ∃ l : Fin 4, ∃ a : Arrival, (inputs.get l).arrival = some a ∧
        (headerOf l a.bytes).map (·.1) = some completed) ∧
      t.counting = s.counting ∧ t.role = s.role ∧ t.prot.config = s.prot.config ∧
      t.prot.supply = s.prot.supply ∧ t.prot.inputs = s.prot.inputs ∧ t.host.held = s.host.held ∧
      t.host.mask = s.host.mask ∧ t.host.cause = s.host.cause ∧ t.service.stray = s.service.stray ∧
      t.planner.fresh = false ∧ t.chan.cycleDue = decide (t.count.toNat % t.params.c = 0) ∧
      ∀ l : Fin 4,
        (t.lanes.get l).enable = (s.lanes.get l).enable ∧ (t.lanes.get l).kind = (s.lanes.get l).kind ∧
        (t.lanes.get l).gradeInput = (s.lanes.get l).gradeInput ∧
        ((s.handed.get l).isNone = true → (t.lanes.get l).signal = (inputs.get l).signal) ∧
        t.handed.get l = none ∧
        ((t.sent.get l).isSome = true ↔
          (t.lanes.get l).state ≠ .off ∧ (t.lanes.get l).state ≠ .quarantined ∧ t.link.state ≠ .standby) ∧
        (t.lanes.get l).sending = (t.sent.get l).isSome ∧
        ∀ f : SentFrame, t.sent.get l = some f →
          f.lane = l ∧ f.count = completed ∧ f.stamp = t.orders.stamp ∧
          f.slots.length = ((t.orders.view.map fun v => layoutCapacity v (sentDirection s.role) l).getD 0) ∧
          (∀ (k : Fin 4) (g : SentFrame), t.sent.get k = some g → g.control = f.control) ∧
          (planInForce t = none ∨ inBlank t = true → ∀ x ∈ f.slots, x = .fill)

/-- A superframe that a framer sends is read back by the lane of its number alone: its header gives count and stamp, its
control slot the 60 bytes, and its blocks are good and give its slots (R57, R58, R202). -/
def Obligations.SuperframesRoundTrip : Prop :=
  ∀ f : SentFrame, f.control.length = 60 → f.slots.length % 16 = 0 → (∀ c : Cell, .data c ∈ f.slots → c.length = 60) →
    (∀ l : Fin 4, headerOf l f.line = if l = f.lane then some (f.count, f.stamp) else none) ∧
    controlOf f.line = f.control ∧ f.line.length = 73 + 978 * (f.slots.length / 16) ∧
    ∀ receivable : Nat, f.slots.length ≤ receivable →
      judgeBlocks receivable 0 (frameBlocks f.slots.length f.line) = (0, f.slots.map some)

/-! ### Surge and supply protection -/

namespace Sys2Proof.Claims

/-- A lane whose cause set goes from one value to another: it enters QUARANTINED, unless it is OFF, when the set becomes
non-empty, and when it becomes empty leaves QUARANTINED for ALIGNING or DARK by its SIGNAL, in both cases with its runs and
hold count discarded (R68, R82). -/
def laneAfter (old new : Causes) (lane : Lane) : Lane :=
  if old = Causes.none ∧ new ≠ Causes.none ∧ lane.state ≠ .off then
    { lane with state := .quarantined, validRun := 0, missRun := 0, holdCount := 0 }
  else if old ≠ Causes.none ∧ new = Causes.none ∧ lane.state = .quarantined then
    { lane with state := if lane.signal then .aligning else .dark, validRun := 0, missRun := 0, holdCount := 0 }
  else lane

/-- The state in which the protection of a lane has been written, with what its cause set does to the lane and LANE set
where the lane's state changes (R68, R69, R82). -/
def guardWritten (l : Fin 4) (g : LaneGuard) (s : State) : State :=
  let lane := laneAfter (s.prot.guards.get l).causes g.causes (s.lanes.get l)
  let t := { s with lanes := s.lanes.set l lane, prot := { s.prot with guards := s.prot.guards.set l g } }
  if lane.state ≠ (s.lanes.get l).state then raise .lane t else t

/-- What a command on the protection block does to all four lanes: each lane follows its cause set, LANE is set exactly
where a lane's state changes, and beside lanes, protection and flags nothing changes (R69, R82). -/
def LanesFollow (s t : State) : Prop :=
  (∀ l : Fin 4, t.lanes.get l =
    laneAfter (s.prot.guards.get l).causes (t.prot.guards.get l).causes (s.lanes.get l)) ∧
  (flagSet .lane t = true ↔ flagSet .lane s = true ∨ ∃ l : Fin 4, (t.lanes.get l).state ≠ (s.lanes.get l).state) ∧
  t = { s with lanes := t.lanes, prot := t.prot,
               host := { s.host with flags := t.host.flags, held := t.host.held } }

/-- The bits of a byte that name the lanes 0-3 (R200). -/
def lanesNamed (b : Byte) : PerLane Bool := ⟨b.getLsbD 0, b.getLsbD 1, b.getLsbD 2, b.getLsbD 3⟩

/-- The number of a set of lanes: bit n for lane n (R200). -/
def lanesNumber (p : PerLane Bool) : Nat :=
  (if p.l0 then 1 else 0) + (if p.l1 then 2 else 0) + (if p.l2 then 4 else 0) + (if p.l3 then 8 else 0)

end Sys2Proof.Claims

/-- A counted strike counts, starts the refractory, raises the storm level and with it perhaps the posture, and applies
STRIKE with a full hold to every lane of the input's group mask; a pulse during the refractory does nothing, and the
refractory ends on its own (R78, R79, R84 to R86). -/
def Obligations.StrikeEffects : Prop :=
  ∀ (s : State) (i : Fin 4), Runs s →
    exec (.refractoryEnd i) s = .next { s with prot := { s.prot with
      inputs := s.prot.inputs.set i ⟨(s.prot.inputs.get i).count, false⟩ } } ∧
    ((s.prot.inputs.get i).refractory = true → exec (.countedStrike i) s = .next s) ∧
    ((s.prot.inputs.get i).refractory = false →
      ∃ t : State, exec (.countedStrike i) s = .next t ∧ LanesFollow s t ∧ t.host.held = s.host.held ∧
        t.prot.inputs = s.prot.inputs.set i ⟨min 255 ((s.prot.inputs.get i).count + 1), true⟩ ∧
        t.prot.stormLevel = min 15 (s.prot.stormLevel + 4) ∧
        t.prot.stormOn = (s.prot.stormOn || decide (8 ≤ s.prot.stormLevel + 4)) ∧
        t.prot.stormDecay =
          (if s.prot.stormLevel = 0 then some (8000 * s.prot.config.stormDecay) else s.prot.stormDecay) ∧
        t.prot.supply = s.prot.supply ∧ t.prot.config = s.prot.config ∧
        (∀ l : Fin 4,
          let masked := (s.prot.config.masks.get i).get l
          let old := s.prot.guards.get l
          t.prot.guards.get l = { old with
            strikeHold := if masked then some (80 * s.prot.config.strikeHold) else old.strikeHold
            causes := { old.causes with
              strike := old.causes.strike || masked
              storm := old.causes.storm || (!s.prot.stormOn && t.prot.stormOn && s.prot.config.isolate.get l) } }) ∧
        flagSet .strike t = true ∧
        flagSet .storm t = (flagSet .storm s || (!s.prot.stormOn && t.prot.stormOn)) ∧
        flagSet .counterSat t = (flagSet .counterSat s || decide ((s.prot.inputs.get i).count = 254)) ∧
        RaisesOnly [.strike, .storm, .counterSat, .lane] s t)

/-- The timers of the protection block: a strike hold that expires removes STRIKE, a driver retry that expires removes
DRIVER, and a storm decay that expires lowers the level by 1, runs again above 0, and at 0 turns the posture OFF and
removes STORM everywhere. A timer that has a boundary left, or is stopped, does not expire (R80, R84 to R86, R90). An event command whose condition does not
hold changes nothing (assumption log 8). -/
def Obligations.ProtectionTimersExpire : Prop :=
  ∀ (s : State) (l : Fin 4), Runs s →
    let g := s.prot.guards.get l
    exec (.strikeHoldExpiry l) s = .next (
      if g.strikeHold = some 0 then
        guardWritten l { g with strikeHold := none, causes := { g.causes with strike := false } } s
      else s) ∧
    exec (.driverRetryExpiry l) s = .next (
      if g.retry = some 0 then guardWritten l { g with retry := none, causes := { g.causes with driver := false } } s
      else s) ∧
    (s.prot.stormDecay ≠ some 0 → exec .stormDecayExpiry s = .next s) ∧
    (s.prot.stormDecay = some 0 → StormConsistent s →
      ∃ t : State, exec .stormDecayExpiry s = .next t ∧ LanesFollow s t ∧ t.host.held = s.host.held ∧
        t.prot.stormLevel + 1 = s.prot.stormLevel ∧
        t.prot.stormDecay = (if t.prot.stormLevel = 0 then none else some (8000 * s.prot.config.stormDecay)) ∧
        t.prot.stormOn = (s.prot.stormOn && decide (t.prot.stormLevel ≠ 0)) ∧
        (∀ k : Fin 4, t.prot.guards.get k = { s.prot.guards.get k with
          causes := { (s.prot.guards.get k).causes with
            storm := (s.prot.guards.get k).causes.storm && !(s.prot.stormOn && !t.prot.stormOn) } }) ∧
        t.prot.inputs = s.prot.inputs ∧ t.prot.config = s.prot.config ∧ t.prot.supply = s.prot.supply ∧
        flagSet .storm t = (flagSet .storm s || (s.prot.stormOn && !t.prot.stormOn)) ∧
        RaisesOnly [.storm, .lane] s t)

/-- The copper drivers: a driving driver that reports an overcurrent limits under its blanking timer; an overcurrent that
ends in time cancels it with nothing counted; a blanking timer that expires under it is a fault, with its output off, its
count, its flag, its cause and, with autoretry on, its retry timer (R88 to R90). An event command whose condition does not
hold changes nothing (assumption log 8). -/
def Obligations.DriverFaults : Prop :=
  ∀ (s : State) (l : Fin 4), Runs s →
    let g := s.prot.guards.get l
    let on := (s.lanes.get l).kind = .copper ∧ (s.lanes.get l).sending = true ∧ g.causes.driver = false
    let put := fun (x : LaneGuard) => { s with prot := { s.prot with guards := s.prot.guards.set l x } }
    (on → g.overcurrent = false → exec (.overcurrent l) s =
      .next (put { g with overcurrent := true, blanking := some (4 * 2 ^ s.prot.config.blanking) })) ∧
    (¬ on → exec (.overcurrent l) s = .next s) ∧
    (on → g.overcurrent = true → g.blanking ≠ none →
      exec (.overcurrent l) s = .next s ∧
      exec (.overcurrentEnd l) s = .next (put { g with overcurrent := false, blanking := none })) ∧
    (¬ on ∨ g.overcurrent = false ∨ g.blanking = none → exec (.overcurrentEnd l) s = .next s) ∧
    (on → g.overcurrent = true → g.blanking = some 0 → ∃ t : State,
      t = guardWritten l { g with
        overcurrent := false, blanking := none, faults := min 255 (g.faults + 1)
        retry := if s.prot.config.autoretry then some (80 * s.prot.config.driverRetry) else g.retry
        causes := { g.causes with driver := true } } (raise .driver s) ∧
      exec (.blankingExpiry l) s = .next (if g.faults = 254 then raise .counterSat t else t)) ∧
    (¬ on ∨ g.overcurrent = false ∨ g.blanking ≠ some 0 → exec (.blankingExpiry l) s = .next s)

/-- A thermal trip applies THERMAL and sets DRIVER, a thermal release removes THERMAL, and RELEASE LANE removes DRIVER with
its retry timer, is refused where DRIVER is not held, and answers the cause set as it stands afterwards (R91, R92). -/
def Obligations.ThermalAndReleaseLane : Prop :=
  ∀ (s : State) (l : Fin 4) (b : Byte), Runs s →
    let g := s.prot.guards.get l
    exec (.thermalTrip l) s =
      .next (guardWritten l { g with causes := { g.causes with thermal := true } } (raise .driver s)) ∧
    exec (.thermalRelease l) s = .next (guardWritten l { g with causes := { g.causes with thermal := false } } s) ∧
    (4 ≤ b.toNat → exec (.releaseLane [b]) s = .next (respond 0x22 .badField [] s)) ∧
    (b = BitVec.ofNat 8 l.val → g.causes.driver = false →
      exec (.releaseLane [b]) s = .next (respond 0x22 .badState [] s)) ∧
    (b = BitVec.ofNat 8 l.val → g.causes.driver = true → exec (.releaseLane [b]) s = .next (respond 0x22 .ok
      [.num 1 ((if g.causes.strike then 1 else 0) + (if g.causes.storm then 2 else 0) +
        if g.causes.thermal then 8 else 0)]
      (guardWritten l { g with retry := none, causes := { g.causes with driver := false } } s)))

/-- PROTECTION SETUP writes every present value, moved into its range, answers all values in force and tells whether one
was moved. A change of autoretry stops or starts the retry timers, a changed storm-isolate flag moves STORM at once while
the posture is ON, and no running timer or other cause changes (R77, R81, R86, R89, R90, R189). What the autoretry byte and
the storm-isolate byte give above the values listed is the model's reading (assumption log 29). -/
def Obligations.ProtectionSetupWrites : Prop :=
  ∀ (s : State) (p1 p0 sh sd dr ar cl bl m0 m1 m2 m3 iso : Byte), Runs s →
    ∃ t : State, exec (.protectionSetup [p1, p0, sh, sd, dr, ar, cl, bl, m0, m1, m2, m3, iso]) s = .next t ∧
      t.prot.config = {
        strikeHold := within (p1.getLsbD 7) 1 255 sh.toNat s.prot.config.strikeHold
        stormDecay := within (p1.getLsbD 6) 1 255 sd.toNat s.prot.config.stormDecay
        driverRetry := within (p1.getLsbD 5) 5 255 dr.toNat s.prot.config.driverRetry
        autoretry := if p1.getLsbD 4 then decide (ar ≠ 0) else s.prot.config.autoretry
        currentLimit := within (p1.getLsbD 3) 0 3 cl.toNat s.prot.config.currentLimit
        blanking := within (p1.getLsbD 2) 0 3 bl.toNat s.prot.config.blanking
        masks := ⟨if p1.getLsbD 1 then lanesNamed m0 else s.prot.config.masks.l0,
          if p1.getLsbD 0 then lanesNamed m1 else s.prot.config.masks.l1,
          if p0.getLsbD 7 then lanesNamed m2 else s.prot.config.masks.l2,
          if p0.getLsbD 6 then lanesNamed m3 else s.prot.config.masks.l3⟩
        isolate := if p0.getLsbD 5 then lanesNamed iso else s.prot.config.isolate } ∧
      t.host.held = some ⟨0x07,
        if outside (p1.getLsbD 7) 1 255 sh.toNat || outside (p1.getLsbD 6) 1 255 sd.toNat ||
           outside (p1.getLsbD 5) 5 255 dr.toNat || outside (p1.getLsbD 4) 0 1 ar.toNat ||
           outside (p1.getLsbD 3) 0 3 cl.toNat || outside (p1.getLsbD 2) 0 3 bl.toNat ||
           outside (p1.getLsbD 1) 0 15 m0.toNat || outside (p1.getLsbD 0) 0 15 m1.toNat ||
           outside (p0.getLsbD 7) 0 15 m2.toNat || outside (p0.getLsbD 6) 0 15 m3.toNat
        then .clamped else .ok,
        [.num 1 t.prot.config.strikeHold, .num 1 t.prot.config.stormDecay, .num 1 t.prot.config.driverRetry,
         .num 1 (if t.prot.config.autoretry then 1 else 0), .num 1 t.prot.config.currentLimit,
         .num 1 t.prot.config.blanking, .num 1 (lanesNumber t.prot.config.masks.l0),
         .num 1 (lanesNumber t.prot.config.masks.l1), .num 1 (lanesNumber t.prot.config.masks.l2),
         .num 1 (lanesNumber t.prot.config.masks.l3), .num 1 (lanesNumber t.prot.config.isolate)]⟩ ∧
      (∀ l : Fin 4,
        let old := s.prot.guards.get l
        t.prot.guards.get l = { old with
          retry := if s.prot.config.autoretry && !t.prot.config.autoretry then none
            else if !s.prot.config.autoretry && t.prot.config.autoretry && old.causes.driver && old.retry.isNone then
              some (80 * t.prot.config.driverRetry)
            else old.retry
          causes := { old.causes with storm :=
            if s.prot.stormOn ∧ s.prot.config.isolate.get l ≠ t.prot.config.isolate.get l then
              t.prot.config.isolate.get l
            else old.causes.storm } }) ∧
      t.prot = { s.prot with config := t.prot.config, guards := t.prot.guards } ∧
      RaisesOnly [.lane] s t ∧ LanesFollow s t

/-! ### Link -/

namespace Sys2Proof.Claims

/-- A queue emptied, its cells counted on dropped (R130, R174). -/
def emptied (x : Slot) : Slot := cutTo 0 x

/-- What a move of the link to CALLING or to STANDBY drops, and what it keeps: plan, queues, far end, stage area, orders
and mismatch state go; an ORDERED commit stays, and any other is abandoned with its flag (R18, R45, R109, R115, R130, R131,
R174). Where a message is formed after the move, control slots to be sent and the marks by which a transfer knows its own
messages change too, and are left aside. -/
def Dropped (s t : State) : Prop :=
  t.planner = ⟨none, none, none, false⟩ ∧ t.stage = ⟨none, .change, 0, []⟩ ∧
  t.table = ⟨s.table.slots.map emptied, s.table.generation⟩ ∧
  t.service = { s.service with exhausted := false, limits := none } ∧
  { t.chan with toSend := s.chan.toSend } = { s.chan with
    missCount := 0, silent := false, accepted := false, echo := none, fromTruck := none, fromMast := none } ∧
  { t.orders with commit := none } = { s.orders with
    stamp := ⟨0, 0⟩, view := none, pending := none, mismatchCount := 0, resync := none, decision := none
    fullSync := none, heard := none, mismatch := false, ready := none, commit := none } ∧
  t.orders.commit.map (fun j => (j.phase, j.code, j.target, j.total, j.transfer.opened)) =
    (if ordered s then s.orders.commit.map (fun j => (j.phase, j.code, j.target, j.total, j.transfer.opened)) else none) ∧
  flagSet .commitAbandoned t = (flagSet .commitAbandoned s || (s.orders.commit.isSome && !ordered s)) ∧
  t = { s with planner := t.planner, stage := t.stage, table := t.table, service := t.service, chan := t.chan,
               orders := t.orders, link := t.link, counting := t.counting,
               host := { s.host with flags := t.host.flags, held := t.host.held } }

/-- Nothing is formed at the move: the halves still to be sent are kept (assumption log 54), and so is an ORDERED commit with
its transfer (R131). -/
def KeptForSending (s t : State) : Prop :=
  t.chan.toSend = s.chan.toSend ∧ t.orders.commit = if ordered s then s.orders.commit else none

/-- The link in CALLING at the first window of a round (R121). -/
def calling (s : State) : Link :=
  ⟨.calling, some .window, 1, some (8 * s.params.callWindow), none, 0, s.link.limit, false⟩

/-- The link in STANDBY with the schedule stopped (R121, R132). -/
def standby (s : State) : Link := ⟨.standby, none, 0, none, none, 0, s.link.limit, false⟩

/-- The link when silence moves it, or not, at a cycle end that is judged (R114, R127, R128). -/
def linkJudged (silent : Bool) (p : Params) (k : Link) : Link :=
  match k.state with
  | .syncing => if silent then { k with state := .holdover, origin := some .syncing, holdCount := 0, expiryDue := false } else k
  | .carrying => if silent then { k with state := .holdover, origin := some .carrying, holdCount := 0, expiryDue := false } else k
  | .holdover => { k with
      holdCount := k.holdCount + 1
      expiryDue := decide (p.holdoverBase * 2 ^ p.holdoverScale ≤ k.holdCount + 1) }
  | _ => k

/-- The receive report of a lane: kind, state, effective grade, and a sixteenth of the score (R49, R72). -/
def laneReported (s : State) (l : Fin 4) : LaneReport :=
  let lane := s.lanes.get l
  { kind := lane.kind, state := lane.state, grade := BitVec.ofNat 8 (min lane.gradeInput.val (maxGrade lane.kind))
    score16 := BitVec.ofNat 8 (lane.score / 16) }

/-- The transfer that runs, with its target, mode and items in their order: a full sync's records as ADDs, or a commit's
edits (R151, R159). -/
def transferring (s : State) : Option (Transfer × Word16 × StageMode × List Edit) :=
  match s.orders.fullSync, s.orders.commit with
  | some f, _ => some (f.transfer, f.target, .full, f.items.map .add)
  | none, some j => some (j.transfer, j.target, .change, s.changes)
  | none, none => none

/-- A transfer's messages carry no item: the link is HOLDOVER or either end is in DEAD_BAND (R153). -/
def sendingPaused (s : State) : Bool := decide (s.link.state = .holdover) || eitherDeadBand s

/-- The index of the item carried, by the stage that the latest reply reports: at the held count of a stage of this target and
mode that is not full, the last of one that is full, and else 0 (R153). -/
def itemChosen (latest : Option Reply) (target : Word16) (mode : StageMode) (n : Nat) : Nat :=
  match latest with
  | none => 0
  | some m =>
    if m.stageTarget = some target ∧ m.stageMode = mode ∧ m.held ≤ n then (if m.held < n then m.held else n - 1) else 0

/-- The item carried: none unless an opened transfer runs and is not paused (R152, R153). -/
def itemCarried (s : State) : Option TransferItem :=
  match transferring s with
  | some (t, target, mode, items) =>
    if t.opened = true ∧ sendingPaused s = false then
      let i := itemChosen (s.chan.fromMast.map (·.1)) target mode items.length
      some ⟨target, mode, i, items.length, items[i]?⟩
    else none
  | none => none

/-- The steering message of a truck end, field by field, with the pending order and its commit mark, the item and the
transfer-paused mark (R99, R106, R139, R153). -/
def steeringCarried (s : State) : Steering where
  cycle := BitVec.ofNat 16 (s.count.toNat / s.params.c)
  link := s.link.state
  generation := s.table.generation
  stamp := s.orders.stamp
  c := s.params.c
  lead := s.params.lead
  order := match s.orders.pending with
    | some o => some ⟨o.epoch, o.stamp, o.view, match o.kind with
      | .plain => false
      | .commit | .fullSync => true⟩
    | none => none
  item := itemCarried s
  paused := match transferring s with
    | some (t, _) => t.opened && sendingPaused s
    | none => false
  lanes := ⟨laneReported s 0, laneReported s 1, laneReported s 2, laneReported s 3⟩
  stormOn := s.prot.stormOn
  deadBand := decide (s.prot.supply = .deadBand)

/-- The reply of a mast end that echoes a cycle, field by field (R108, R148). -/
def replyCarried (echo : Word16) (s : State) : Reply where
  echo := echo
  link := s.link.state
  generation := s.table.generation
  stageTarget := s.stage.target
  stageMode := s.stage.mode
  held := s.stage.items.length
  stamp := s.orders.stamp
  ready := s.orders.ready
  blank := decide ((s.orders.stamp ≠ ⟨0, 0⟩ ∧ planInForce s = none) ∨ s.orders.mismatch = true)
  lanes := ⟨laneReported s 0, laneReported s 1, laneReported s 2, laneReported s 3⟩
  causes := ⟨(s.prot.guards.get 0).causes, (s.prot.guards.get 1).causes, (s.prot.guards.get 2).causes,
    (s.prot.guards.get 3).causes⟩
  stormOn := s.prot.stormOn
  deadBand := decide (s.prot.supply = .deadBand)

/-- The control slots of the cycle that begins, formed from the state of this end as it then stands: none in a void cycle,
at the truck end a steering message but in STANDBY, at the mast end a reply to the message noted (R101, R102, R109). -/
def messageFormed (s t : State) : Prop :=
  if beginsVoid s.params.c s.count then t.chan.toSend = s.chan.toSend
  else
    match s.role with
    | .truck => t.chan.toSend =
        if t.link.state = .standby then s.chan.toSend
        else [firstHalf (steeringBytes (steeringCarried t)), secondHalf (steeringBytes (steeringCarried t))]
    | .mast =>
      match s.chan.echo with
      | some k =>
        if t.link.state = .syncing ∨ t.link.state = .carrying ∨ t.link.state = .holdover then
          t.chan.toSend = [firstHalf (replyBytes (replyCarried k t)), secondHalf (replyBytes (replyCarried k t))] ∧
          t.chan.echo = none
        else t.chan.toSend = s.chan.toSend
      | none => t.chan.toSend = s.chan.toSend

end Sys2Proof.Claims

/-- LINK START in STANDBY moves the link to CALLING at the first window with the count running, and is refused in any other
state; LINK STOP moves the link to STANDBY from any other state with all that the move drops, and changes nothing in
STANDBY (R53, R120, R121, R130 to R133). That halves of a message already formed are kept is assumption log 54. -/
def Obligations.LinkStartsAndStops : Prop :=
  ∀ s : State, Runs s →
    (s.link.state ≠ .standby → exec (.linkStart []) s = .next (respond 0x30 .badState [] s)) ∧
    (s.link.state = .standby → ∃ t : State, exec (.linkStart []) s = .next t ∧ Dropped s t ∧ KeptForSending s t ∧ t.link = calling s ∧
      t.counting = true ∧ t.host.held = some ⟨0x30, .ok, []⟩ ∧ flagSet .link t = true ∧
      RaisesOnly [.link, .commitAbandoned, .counterSat] s t) ∧
    (s.link.state = .standby → exec (.linkStop []) s = .next (respond 0x31 .ok [] s)) ∧
    (s.link.state ≠ .standby → ∃ t : State, exec (.linkStop []) s = .next t ∧ Dropped s t ∧ KeptForSending s t ∧ t.link = standby s ∧
      t.counting = s.counting ∧ t.host.held = some ⟨0x31, .ok, []⟩ ∧ flagSet .link t = true ∧
      RaisesOnly [.link, .commitAbandoned, .counterSat] s t)

/-- The call schedule in CALLING at the expiry of its timer: the first two windows lead into a gap, a gap into the next
window, the third window fails the round with CALL_FAILED into a recall wait, or into STANDBY where the recall interval is
0, and a recall wait into a new round. A timer with a boundary left does not expire (R121, R123). That the attempt number
stays in the recall wait is the model's choice (assumption log 44), and that halves of a message already formed are kept
(assumption log 54). An event command whose condition does not hold changes
nothing (assumption log 8). -/
def Obligations.CallScheduleMoves : Prop :=
  ∀ s : State, Runs s →
    let k := s.link
    (k.state ≠ .calling ∨ k.timer ≠ some 0 → exec .callWindowExpiry s = .next s ∧ exec .gapExpiry s = .next s ∧
      exec .recallWaitExpiry s = .next s) ∧
    (k.state = .calling → k.timer = some 0 →
      (k.phase = some .window → k.attempt < 3 → exec .callWindowExpiry s =
        .next { s with link := { k with phase := some .gap, timer := some 400 } }) ∧
      (k.phase = some .window → 3 ≤ k.attempt → s.params.recallInterval ≠ 0 → exec .callWindowExpiry s =
        .next (raise .callFailed { s with link := { k with
          phase := some .recallWait, timer := some (8000 * s.params.recallInterval) } })) ∧
      (k.phase = some .window → 3 ≤ k.attempt → s.params.recallInterval = 0 →
        ∃ t : State, exec .callWindowExpiry s = .next t ∧ Dropped s t ∧ KeptForSending s t ∧ t.link = standby s ∧ t.counting = s.counting ∧
          t.host.held = s.host.held ∧ flagSet .callFailed t = true ∧ flagSet .link t = true ∧
          RaisesOnly [.callFailed, .link, .commitAbandoned, .counterSat] s t) ∧
      (k.phase = some .gap → exec .gapExpiry s = .next { s with link := { k with
        phase := some .window, attempt := k.attempt + 1, timer := some (8 * s.params.callWindow) } }) ∧
      (k.phase = some .recallWait → exec .recallWaitExpiry s = .next { s with link := { k with
        phase := some .window, attempt := 1, timer := some (8 * s.params.callWindow) } }) ∧
      (k.phase ≠ some .window → exec .callWindowExpiry s = .next s) ∧
      (k.phase ≠ some .gap → exec .gapExpiry s = .next s) ∧
      (k.phase ≠ some .recallWait → exec .recallWaitExpiry s = .next s))

/-- The end of a control cycle judges a cycle that was not void for a miss in SYNCING, CARRYING and HOLDOVER, moves a link
that falls silent to HOLDOVER with its origin, counts holdover against the limit formed from the configuration in force, and
has the message of the new cycle formed: a steering message with the pending order and its commit mark, the item that the
latest reply's stage asks for while an opened transfer is not paused, and the transfer-paused mark, noted with the transfers;
or a mast reply. Where holdover has reached its limit, its expiry moves the link to CALLING and the message is formed after it
(R99, R101, R102, R106, R108, R109, R112 to R114, R127, R128, R130, R133, R139, R152, R153). An event command whose condition does not
hold changes nothing (assumption log 8). When each message is formed follows assumption log 12, which item goes without a reply
held assumption logs 20 and 48, which of two transfers is sent assumption log 55, and that halves of a message already formed
are kept where none is formed assumption log 54. -/
def Obligations.CycleEndsJudged : Prop :=
  ∀ s : State, Runs s →
    (s.chan.cycleDue = false → exec .controlCycleEnd s = .next s) ∧
    (s.link.expiryDue = false → exec .holdoverExpiry s = .next s) ∧
    (s.chan.cycleDue = true → ∃ t : State, exec .controlCycleEnd s = .next t ∧
      let judged := !endsVoid s.params.c s.count && decide (s.link.state ≠ .standby ∧ s.link.state ≠ .calling)
      let missed := judged && !s.chan.accepted
      t.chan.missCount = (if missed then min 15 (s.chan.missCount + 1) else s.chan.missCount) ∧
      t.chan.silent = (s.chan.silent || (missed && decide (s.params.missLimit ≤ t.chan.missCount))) ∧
      t.link = { (if judged then linkJudged t.chan.silent s.params s.link else s.link) with
        limit := s.params.holdoverBase * 2 ^ s.params.holdoverScale } ∧
      t.chan.accepted = false ∧ t.chan.cycleDue = false ∧
      (t.link.expiryDue = false → messageFormed s t) ∧
      (t.link.expiryDue = true → t.chan.toSend = s.chan.toSend) ∧
      t.chan.echo = (if t.link.expiryDue = true ∨ beginsVoid s.params.c s.count = true ∨ s.role = .truck ∨
          (t.link.state ≠ .syncing ∧ t.link.state ≠ .carrying ∧ t.link.state ≠ .holdover) then s.chan.echo else none) ∧
      flagSet .link t = (flagSet .link s || decide (t.link.state ≠ s.link.state)) ∧ RaisesOnly [.link] s t ∧
      t.orders = (if t.link.expiryDue = false ∧ beginsVoid s.params.c s.count = false ∧ s.role = .truck ∧
          t.link.state ≠ .standby then mapTransfers (fun x => ⟨x.opened, true, x.sentNow⟩) s.orders
        else s.orders) ∧
      t = { s with link := t.link, orders := t.orders, host := { s.host with flags := t.host.flags },
                   chan := { s.chan with
                     missCount := t.chan.missCount, silent := t.chan.silent, accepted := false
                     cycleDue := false, toSend := t.chan.toSend, echo := t.chan.echo } }) ∧
    (s.link.expiryDue = true → ∃ t : State, exec .holdoverExpiry s = .next t ∧ Dropped s t ∧ t.link = calling s ∧
      t.counting = s.counting ∧ t.host.held = s.host.held ∧
      flagSet .link t = (flagSet .link s || decide (s.link.state ≠ .calling)) ∧
      RaisesOnly [.link, .commitAbandoned, .counterSat] s t ∧
      (s.role = .mast → KeptForSending s t) ∧
      (s.role = .truck → messageFormed s t ∧ t.orders.commit = (if ordered s then
        s.orders.commit.map (fun j => if beginsVoid s.params.c s.count then j
          else { j with transfer := ⟨j.transfer.opened, true, j.transfer.sentNow⟩ }) else none)))

/-! ### Control channel -/

namespace Sys2Proof.Claims

/-- The tests by which the mast end accepts a steering message whose first half came in the superframe before (R105,
R203). -/
def steeringPasses (m : Steering) (s : State) : Prop :=
  s.role = .mast ∧ 2 ≤ m.c ∧ m.c ≤ 64 ∧ 24 ≤ m.lead ∧ m.lead ≤ 4096 ∧
  (s.link.state = .calling ∨
    ((s.link.state = .syncing ∨ s.link.state = .carrying ∨ s.link.state = .holdover) ∧
      (s.count - 1).toNat % s.params.c = 0 ∧ m.cycle = BitVec.ofNat 16 ((s.count - 1).toNat / s.params.c) ∧
      m.c = s.params.c ∧ m.lead = s.params.lead))

/-- The tests by which the truck end accepts a mast reply (R105). -/
def replyPasses (m : Reply) (s : State) : Prop :=
  s.role = .truck ∧ s.link.state ≠ .standby ∧ m.echo = previousCycle s.params.c s.count

/-- The link when it has heard a message: CALLING goes to SYNCING with the schedule stopped, HOLDOVER returns to its origin
(R122, R129). -/
def linkHearing (k : Link) : Link :=
  match k.state with
  | .calling => { k with state := .syncing, phase := none, attempt := 0, timer := none }
  | .holdover => { k with
      state := if k.origin = some .syncing then .syncing else .carrying, origin := none, holdCount := 0, expiryDue := false }
  | _ => k

/-- The planning source of an order: a complete stage of its generation where it has the commit mark, by the stage's mode,
and else the committed table where that has its generation (R146). -/
def heardSource (o : OrderField) (committed : Word16) (stage : StageArea) : Option Source :=
  let staged := decide (stage.target = some o.stamp.generation) && decide (stage.items.length = stage.total)
  if o.commitMark && staged && decide (stage.mode = .change) && decide (o.stamp.generation = after committed) then
    some .changeStage
  else if o.commitMark && staged && decide (stage.mode = .full) then some .fullStage
  else if o.stamp.generation = committed then some .committed
  else none

/-- The malformed row of R17: n outside its mode's range, i not below n, i other than 0 for n = 0, an edit present for n = 0 or
absent for n above 0, or an edit other than ADD in FULL mode. -/
def malformed (i : TransferItem) : Bool :=
  decide (i.mode = .change ∧ (i.total < 1 ∨ 16 < i.total)) || decide (i.mode = .full ∧ 64 < i.total) ||
  decide (0 < i.total ∧ i.total ≤ i.index) || decide (i.total = 0 ∧ i.index ≠ 0) ||
  decide (i.total = 0 ∧ i.edit ≠ none) || decide (0 < i.total ∧ i.edit = none) ||
  (decide (i.mode = .full) && i.edit.any fun e => !isAdd e)

/-- The stage area when a steering message has been judged: an item by R17, no item by R18. -/
def stageHearing (m : Steering) (s : State) : StageArea :=
  match m.item with
  | some i =>
    if s.prot.supply = .deadBand ∨ malformed i = true ∨ i.target = s.table.generation then s.stage
    else
      let base := if s.stage.target = some i.target ∧ s.stage.mode = i.mode ∧ s.stage.total = i.total then s.stage
        else ⟨some i.target, i.mode, i.total, []⟩
      if i.index = base.items.length then { base with items := base.items ++ i.edit.toList } else base
  | none =>
    if m.link ≠ .holdover ∧ m.deadBand = false ∧ m.paused = false ∧ s.prot.supply = .normal ∧
        (∀ o, m.order = some o → some o.stamp.generation ≠ s.stage.target) then ⟨none, .change, 0, []⟩
    else s.stage

end Sys2Proof.Claims

namespace Sys2Proof.Claims

/-- The planned table of a source: the committed table, the committed table with the stage's items applied, or the records
of a FULL stage (R41, R146). -/
def heardTable (x : Source) (slots : List Slot) (stage : StageArea) : List Record :=
  match x with
  | .committed => recordsOf slots
  | .changeStage => projected (recordsOf slots) stage.items
  | .fullStage => projected [] stage.items

/-- The planner when an order is judged for plannability at a count: with a source its run starts, which abandons one in
progress with the next plan held then (R41, R146). -/
def plannerHearing (o : OrderField) (source : Option Source) (slots : List Slot) (stage : StageArea) (now : Count)
    (p : Planner) : Planner :=
  match source with
  | none => p
  | some x => { p with
      run := some ⟨o.stamp, o.view, heardTable x slots stage, now,
        now + BitVec.ofNat 32 (max 1 (((heardTable x slots stage).length + 3) / 4))⟩
      next := if p.run = none then p.next else none }

/-- The planner when a heard order has been replaced by one with another stamp: its run is abandoned (R145). -/
def runAbandoned (replaced : Option HeardOrder) (p : Planner) : Planner :=
  { p with run := p.run.filter fun r => decide (replaced.map (fun h => h.order.stamp) ≠ some r.stamp) }

/-- The heard order when a message brings no new one: one without a source is judged for plannability again (R145, R146). -/
def heardAgain (committed : Word16) (stage : StageArea) (h : HeardOrder) : HeardOrder :=
  if h.source = none then ⟨h.order, heardSource h.order committed stage⟩ else h

end Sys2Proof.Claims

/-- A steering message that fails its tests changes nothing. One that passes becomes the latest far-end report, ends misses
and silence, gives a calling end its C and lead, moves the link, has its item or its lack of one judged, and is noted for
the reply. Without an order it starts the mismatch condition where the stamps differ; with none, or with the order that is in
force or heard already, a heard order without a source is judged for plannability again. A new order whose epoch is ahead is
heard, with its planning source and run, in place of any heard before it, whose run is abandoned; one whose epoch is reached
or passed is taken at once (R17, R18, R21, R22, R41, R44, R100, R105, R107, R122, R125, R129, R133, R145 to R147, R149). The
count at which its first half was received is that of the superframe before (assumption log 11), a new C marks the cycles at
once (assumption log 24), and what becomes of a next plan held at a run's start is assumption log 40. The queue limits stay
those of the most recently computed plan, also where an order taken at once discards that plan (assumption log 42). -/
def Obligations.SteeringMessagesHeard : Prop :=
  ∀ (s : State) (m : Steering), Runs s →
    (¬ steeringPasses m s → exec (.steeringMessage m) s = .next s) ∧
    (steeringPasses m s → ∃ t : State, exec (.steeringMessage m) s = .next t ∧
      t.chan.fromTruck = some (m, s.count) ∧ t.chan.missCount = 0 ∧ t.chan.silent = false ∧ t.chan.accepted = true ∧
      t.chan.echo = some m.cycle ∧ t.chan.toSend = s.chan.toSend ∧ t.chan.waiting = s.chan.waiting ∧
      t.chan.fromMast = s.chan.fromMast ∧
      t.chan.cycleDue = (if s.link.state = .calling ∧ m.c ≠ s.params.c then decide (s.count.toNat % m.c = 0)
        else s.chan.cycleDue) ∧
      t.params = (if s.link.state = .calling then { s.params with c := m.c, lead := m.lead } else s.params) ∧
      t = { s with chan := t.chan, params := t.params, link := t.link, stage := t.stage, table := t.table
                   planner := t.planner, orders := t.orders
                   service := { s.service with exhausted := t.service.exhausted }
                   host := { s.host with flags := t.host.flags } } ∧
      flagSet .link t = (flagSet .link s || decide (s.link.state = .calling ∨ t.link.state ≠ s.link.state)) ∧
      let stage := stageHearing m s
      let fresh := fun o : OrderField => m.order = some o ∧ o.stamp ≠ s.orders.stamp ∧
        (s.orders.heard.map fun h => h.order.stamp) ≠ some o.stamp
      ((∀ o : OrderField, ¬ fresh o) →
        t.link = linkHearing s.link ∧ t.stage = stage ∧ t.table = s.table ∧ t.service = s.service ∧
        t.orders = { s.orders with
          heard := s.orders.heard.map (heardAgain s.table.generation stage)
          mismatch := s.orders.mismatch || decide (m.order = none ∧ m.stamp ≠ s.orders.stamp) } ∧
        t.planner = (match s.orders.heard with
          | some h => if h.source = none then
              plannerHearing h.order (heardSource h.order s.table.generation stage) s.table.slots stage s.count s.planner
              else s.planner
          | none => s.planner) ∧
        flagSet .planMismatch t = (flagSet .planMismatch s ||
          (!s.orders.mismatch && decide (m.order = none ∧ m.stamp ≠ s.orders.stamp))) ∧
        RaisesOnly [.link, .planMismatch] s t) ∧
      ∀ o : OrderField, fresh o →
        let source := heardSource o s.table.generation stage
        let planner := runAbandoned s.orders.heard (plannerHearing o source s.table.slots stage s.count s.planner)
        (1 ≤ (o.epoch - s.count).toNat → (o.epoch - s.count).toNat < 2 ^ 31 →
          t.link = linkHearing s.link ∧ t.stage = stage ∧ t.table = s.table ∧ t.service = s.service ∧
          t.orders = { s.orders with heard := some ⟨o, source⟩ } ∧ t.planner = planner ∧ RaisesOnly [.link] s t) ∧
        (o.epoch = s.count ∨ 2 ^ 31 ≤ (o.epoch - s.count).toNat →
          t.link = linkTaking (linkHearing s.link) ∧
          t.orders = { s.orders with stamp := o.stamp, view := some o.view, heard := none, mismatch := false } ∧
          t.planner = plannerTaking o.stamp planner ∧ RaisesOnly [.link, .counterSat] s t ∧
          (source = none ∨ source = some .committed →
            t.table = s.table ∧ t.stage = stage ∧ t.service = s.service ∧ RaisesOnly [.link] s t) ∧
          (source = some .changeStage →
            t.table = ⟨applyEdits .mast s.table.slots stage.items, o.stamp.generation⟩ ∧
            t.stage = ⟨none, .change, 0, []⟩) ∧
          (source = some .fullStage →
            t.table = ⟨applyEdits .mast [] stage.items, o.stamp.generation⟩ ∧ t.stage = ⟨none, .change, 0, []⟩)))

/-- A mast reply that fails its tests changes nothing. One that passes becomes the latest far-end report, ends misses and
silence and moves the link; the truck end then makes its SYNCING decision, once in a stay in SYNCING, opens transfers, judges
its commit's stage, and counts a mismatch towards a resync. Every other field of its orders stays (R105, R110, R122, R124,
R129, R133, R150, R152, R154, R158). A stage counts as complete for an opened transfer alone (assumption log 9), and a full
sync that starts removes the mark of a resync by full sync (assumption log 21). -/
def Obligations.MastRepliesRead : Prop :=
  ∀ (s : State) (m : Reply), Runs s →
    (¬ replyPasses m s → exec (.mastReply m) s = .next s) ∧
    (replyPasses m s → ∃ t : State, exec (.mastReply m) s = .next t ∧
      t.chan = { s.chan with fromMast := some (m, s.count), missCount := 0, silent := false, accepted := true } ∧
      t.link = linkHearing s.link ∧
      flagSet .link t = (flagSet .link s || decide (t.link.state ≠ s.link.state)) ∧
      RaisesOnly [.link, .planMismatch, .commitAbandoned] s t ∧
      t = { s with chan := t.chan, link := t.link, orders := t.orders, host := { s.host with flags := t.host.flags } } ∧
      t.orders = { s.orders with
        decision := t.orders.decision, fullSync := t.orders.fullSync, commit := t.orders.commit
        mismatchCount := t.orders.mismatchCount, resync := t.orders.resync } ∧
      let opens := fun x : Transfer => { x with opened := x.opened || (x.sentBefore && m.stageTarget.isNone) }
      let equal := decide (m.generation = s.table.generation)
      let decides := decide (t.link.state = .syncing ∧ s.orders.decision = none ∧ s.orders.pending = none ∧
        s.orders.fullSync = none ∧ ordered s = false)
      let counts := decide (t.link.state = .carrying ∧ s.orders.pending = none ∧ s.orders.fullSync = none ∧
        ordered s = false)
      let mismatched := decide (m.stamp ≠ s.orders.stamp ∨ m.generation ≠ s.table.generation)
      let resyncs := counts && mismatched && decide (1 ≤ s.orders.mismatchCount)
      t.orders.decision =
        (if decides then some (if equal then .freshOrder else .fullSync) else s.orders.decision) ∧
      t.orders.fullSync = (if decides && !equal then
          some ⟨s.table.generation, recordsOf s.table.slots, ⟨false, false, false⟩⟩
        else s.orders.fullSync.map fun f => { f with transfer := opens f.transfer }) ∧
      t.orders.mismatchCount = (if counts then
          (if mismatched && decide (s.orders.mismatchCount = 0) then 1 else 0)
        else s.orders.mismatchCount) ∧
      t.orders.resync = (if resyncs then some (if equal then .freshOrder else .fullSync)
        else if decides && !equal && decide (s.orders.resync = some .fullSync) then none
        else s.orders.resync) ∧
      flagSet .planMismatch t = (flagSet .planMismatch s || resyncs) ∧
      flagSet .commitAbandoned t =
        (flagSet .commitAbandoned s || (resyncs && !equal && decide (s.orders.commit ≠ none))) ∧
      (t.orders.commit = none ↔ s.orders.commit = none ∨ (resyncs && !equal) = true) ∧
      ∀ j x : CommitJob, s.orders.commit = some j → t.orders.commit = some x →
        let complete := stageComplete m (opens j.transfer) j.target .change j.total
        x = { j with transfer := opens j.transfer, phase := x.phase } ∧
        (∀ w : Bool, j.phase = .transferring w → x.phase =
          if complete then (if j.code = 0 then .transferring true else .armed none) else .transferring false) ∧
        (j.phase = .armed none → x.phase = if complete then .armed none else .transferring false) ∧
        (∀ g : Count, j.phase = .armed (some g) → x.phase = j.phase) ∧
        ∀ (e : Count) (v : Bool), j.phase = .ordered e v → x.phase = j.phase)

namespace Sys2Proof.Claims

/-- The half that a lane handed on in the superframe, with the count of its header (R59, R103). -/
def halfHanded (s : State) (l : Fin 4) : Option (Count × List Byte) := (s.handed.get l).bind HandOver.control

/-- A lane completes a checked copy in the superframe: a SECOND half whose count follows that of the first half that the lane
holds waiting, with a good check over both (R103, R203). -/
def completes (s : State) (l : Fin 4) (msg : List Byte) (first : Count) : Prop :=
  ∃ (w : WaitingHalf) (count : Count) (bytes : List Byte), s.chan.waiting.get l = some w ∧
    halfHanded s l = some (count, bytes) ∧ byteAt bytes 0 = 0x02 ∧ w.count + 1 = count ∧ first = w.count ∧
    checkedMessage w.bytes bytes = some msg

/-- The state in which each lane holds the first half that it received in the superframe, or none (R103). -/
def halvesHeld (s : State) : State :=
  let held := fun l : Fin 4 => match halfHanded s l with
    | some (count, bytes) => if byteAt bytes 0 = 0x01 then some (⟨count, bytes⟩ : WaitingHalf) else none
    | none => none
  { s with chan := { s.chan with waiting := ⟨held 0, held 1, held 2, held 3⟩ } }

end Sys2Proof.Claims

/-- Both control messages are read back as themselves from their bytes, and from their two halves the message bytes are
recovered under a good check; neither kind is read as the other. In a superframe each lane holds a FIRST half and pairs a
SECOND with the one it held; the checked copy of the lowest-numbered lane that completed one is judged as its message is, one
of neither kind is discarded, and without one nothing is judged (R101, R103 to R106, R108, R203). -/
def Obligations.ControlMessagesRoundTrip : Prop :=
  (∀ m : Steering, m.wellFormed = true →
    (steeringBytes m).length = 116 ∧ steeringOf (steeringBytes m) = some m ∧ replyOf (steeringBytes m) = none) ∧
  (∀ m : Reply, m.wellFormed = true →
    (replyBytes m).length = 116 ∧ replyOf (replyBytes m) = some m ∧ steeringOf (replyBytes m) = none) ∧
  (∀ msg : List Byte, msg.length = 116 →
    (firstHalf msg).length = 60 ∧ (secondHalf msg).length = 60 ∧
    checkedMessage (firstHalf msg) (secondHalf msg) = some msg) ∧
  ∀ s : State, Runs s →
    let w := halvesHeld s
    ((∀ (l : Fin 4) (msg : List Byte) (first : Count), ¬ completes s l msg first) → receiveControl s = w) ∧
    ∀ (l : Fin 4) (msg : List Byte) (first : Count), completes s l msg first →
      (∀ (k : Fin 4) (other : List Byte) (n : Count), k < l → ¬ completes s k other n) →
      (∀ m : Steering, steeringOf msg = some m → first = s.count - 1 ∨ s.link.state = .calling →
        exec (.steeringMessage m) w = .next (receiveControl s)) ∧
      (∀ m : Reply, steeringOf msg = none → replyOf msg = some m →
        exec (.mastReply m) w = .next (receiveControl s)) ∧
      (steeringOf msg = none → replyOf msg = none → receiveControl s = w)

/-! ### Service ports -/

/-- A cell that arrives at a transmit side: stray without a binding; else dropped and counted by the first test that
applies, with POOL_FULL at the first drop of an exhaustion episode, or queued as the newest (R161, R162, R164 to R166). -/
def Obligations.CellArrivalTests : Prop :=
  ∀ (s : State) (port : Fin 32) (cell : Cell), Runs s → TableInOrder s → cell.length = 60 →
    let bound := fun (x : Slot) => (s.role = .mast ∧ x.record.direction = .down ∧ x.record.mastPort = port) ∨
      (s.role = .truck ∧ x.record.direction = .up ∧ x.record.truckPort = port)
    ((∀ x ∈ s.table.slots, ¬ bound x) →
      ∃ t : State, exec (.cellArrival port cell) s = .next t ∧
        t.service.stray = min 4294967295 (s.service.stray + 1) ∧
        flagSet .counterSat t = (flagSet .counterSat s || decide (s.service.stray = 4294967294)) ∧
        RaisesOnly [.counterSat] s t ∧
        t = { s with service := { s.service with stray := t.service.stray },
                     host := { s.host with flags := t.host.flags } }) ∧
    ∀ (xs ys : List Slot) (x : Slot), s.table.slots = xs ++ x :: ys → bound x → (∀ y ∈ xs, ¬ bound y) →
      let full := 16384 ≤ (s.table.slots.map fun y => y.queue.length).sum
      let overLimit := queueLimit s.service.limits x.record.number ≤ x.queue.length
      (planInForce s ≠ none → ¬ overLimit → ¬ full → exec (.cellArrival port cell) s = .next { s with
        table := { s.table with slots := xs ++ { x with queue := x.queue ++ [cell] } :: ys } }) ∧
      (planInForce s = none ∨ overLimit ∨ full →
        ∃ t : State, exec (.cellArrival port cell) s = .next t ∧
          t.table = { s.table with slots := xs ++ { x with counters := { x.counters with
            dropped := min 4294967295 (x.counters.dropped + 1) } } :: ys } ∧
          t.service.exhausted =
            (s.service.exhausted || (decide (planInForce s ≠ none) && decide (¬ overLimit) && decide full)) ∧
          flagSet .poolFull t = (flagSet .poolFull s || (t.service.exhausted && !s.service.exhausted)) ∧
          flagSet .counterSat t = (flagSet .counterSat s || decide (x.counters.dropped = 4294967294)) ∧
          RaisesOnly [.poolFull, .counterSat] s t ∧
          t = { s with table := t.table, service := { s.service with exhausted := t.service.exhausted },
                       host := { s.host with flags := t.host.flags } })

namespace Sys2Proof.Claims

/-- What each position of an entry's runs gives in this superframe, from the good copies of its lanes that were judged by the
stamp in force (R169, R170). -/
def results (s : State) (e : Entry) : List Position :=
  let at_ := fun (r : SlotRun) (k : Nat) => (s.handed.get r.lane).bind fun h =>
    if h.stamp = s.orders.stamp then (h.payload[r.first + k]?).join else none
  match e.laneA with
  | none => []
  | some a => (List.range e.slots).map fun k =>
      judgePosition (at_ a k) (match e.laneB with | none => none | some b => at_ b k)

/-- A slot with the results of its circuit's positions counted (R170, R176). -/
def received (ps : List Position) (x : Slot) : Slot := { x with counters := { x.counters with
  delivered := min 4294967295 (x.counters.delivered + (ps.filterMap Position.cell).length)
  lost := min 4294967295 (x.counters.lost + (ps.filter fun p => decide (p = .lost)).length)
  rescued := min 4294967295 (x.counters.rescued + (ps.filter fun p => p.isRescued).length) } }

/-- The cells that the positions of a circuit give, each with the port of the circuit's record at this end (R4, R171). -/
def cellsOut (role : Role) (x : Slot) (ps : List Position) : List (Fin 32 × Cell) :=
  (ps.filterMap Position.cell).map fun c =>
    ((match role with | .mast => x.record.mastPort | .truck => x.record.truckPort), c)

end Sys2Proof.Claims

/-- The positions of a circuit at the receiving end: lane A's good copy decides, else lane B's; a position all of whose
copies are bad is lost. Delivered cells leave the bound port in position order and are counted, each once. A superframe
boundary delivers the circuits of the plan in force that this end receives, entry by entry in the plan's order, and nothing
while no plan is in force or in BLANK (R169 to R171, R176, R177). That it delivers after the settling and the evaluations of
the superframe is the model's order of the work (assumption logs 2 and 3). -/
def Obligations.PositionsDelivered : Prop :=
  (∀ (a b : Option PayloadSlot) (c : Cell),
    judgePosition (some (.data c)) b = .delivered c ∧ judgePosition (some .fill) b = .nothing ∧
    judgePosition none none = .lost ∧ judgePosition none (some (.data c)) = .rescued c ∧
    judgePosition none (some .fill) = .nothing ∧
    (judgePosition a b = .lost → a = none ∧ b = none)) ∧
  (∀ (s : State) (inputs : PerLane LaneInput), Runs s → ∃ t : State, exec (.superframeBoundary inputs) s = .next t ∧
    t.service.delivered = (deliverSuperframe (evaluateAll inputs (settle s))).service.delivered) ∧
  ∀ u : State, TableInOrder u →
    let t := deliverSuperframe u
    (planInForce u = none ∨ inBlank u = true → t = { u with service := { u.service with delivered := [] } }) ∧
    ∀ p : Plan, planInForce u = some p → inBlank u = false →
      let es := (p.direction (receivedDirection u.role)).entries
      (es.map (·.number)).Nodup →
      t.service.delivered = es.flatMap (fun e =>
        ((slotAt u.table.slots e.number).map fun x => cellsOut u.role x (results u e)).getD []) ∧
      t.table.slots = u.table.slots.map (fun x =>
        match es.find? fun e => decide (e.number = x.record.number) with
        | some e => received (results u e) x
        | none => x) ∧
      flagSet .counterSat t = (flagSet .counterSat u || u.table.slots.any fun x =>
        es.any fun e => decide (e.number = x.record.number) &&
          (saturates x.counters.delivered (received (results u e) x).counters.delivered ||
           saturates x.counters.lost (received (results u e) x).counters.lost ||
           saturates x.counters.rescued (received (results u e) x).counters.rescued)) ∧
      RaisesOnly [.counterSat] u t ∧
      t = { u with table := { u.table with slots := t.table.slots },
                   service := { u.service with delivered := t.service.delivered },
                   host := { u.host with flags := t.host.flags } }

/-! ### Resets -/

/-- The three hard resets put every block at its hard reset values and hold the part, in which time no request and no event
but a further reset, the end of a condition and the level of a GRADE input changes anything; with the end of the last condition the part leaves reset with strap, supply and cause read, and the
mast end's count runs (R24, R46, R75, R97, R118, R135, R160, R179, R195, R197). An event command whose condition does not
hold changes nothing (assumption log 8). What a held part does with
other commands is assumption log 15, that what was handed, sent, delivered and shifted out is gone and the hold target 0
assumption log 26, and that halves still to be sent are gone assumption log 57. -/
def Obligations.HardResetsAndTheirEnd : Prop :=
  (∀ (s : State) (c : Instr) (held : Resetting),
    (c = .powerOnReset ∧ held = { s.resetting with powerOn := true }) ∨
    (c = .pinReset ∧ held = { s.resetting with pin := true }) ∨
    (c = .supplyReset ∧ held = { s.resetting with supply := true }) →
    ∃ t : State, exec c s = .next t ∧ inReset t = true ∧
      (∀ l : Fin 4, t.lanes.get l = ⟨false, .optical, (s.lanes.get l).signal, (s.lanes.get l).gradeInput, .off, 0, 0, 0,
        0, 0, ⟨0, 0, 0, 0⟩, false⟩ ∧ t.prot.guards.get l = ⟨⟨false, false, false, false⟩, none, none, none, false, 0⟩ ∧
        t.prot.inputs.get l = ⟨0, false⟩) ∧
      t.prot.stormLevel = 0 ∧ t.prot.stormOn = false ∧ t.prot.stormDecay = none ∧
      t.prot.config = ⟨25, 10, 20, true, 2, 1, ⟨⟨true, true, true, true⟩, ⟨true, true, true, true⟩,
        ⟨true, true, true, true⟩, ⟨true, true, true, true⟩⟩, ⟨false, false, false, false⟩⟩ ∧
      t.prot.supply = s.prot.supply ∧ t.host = ⟨none, 0, 0, s.host.cause, []⟩ ∧
      t = { State.reset with pending := s.pending, role := s.role, resetting := held, lanes := t.lanes, prot := t.prot,
                             host := t.host }) ∧
  (∀ (s : State) (c : Instr), inReset s = true → c ≠ .powerOnReset → c ≠ .pinReset → c ≠ .supplyReset →
    (∀ (cause : HardCause) (strap : Role) (high : Bool), c ≠ .endOfHardReset cause strap high) →
    (∀ l g : Fin 4, c ≠ .gradeChange l g) → exec c s = .next s) ∧
  ∀ (s : State) (cause : HardCause) (strap : Role) (high : Bool),
    let left : Resetting := match cause with
      | .powerOn => { s.resetting with powerOn := false }
      | .pin => { s.resetting with pin := false }
      | .supply => { s.resetting with supply := false }
    (left = s.resetting → exec (.endOfHardReset cause strap high) s = .next s) ∧
    (left ≠ s.resetting → left ≠ ⟨false, false, false⟩ →
      exec (.endOfHardReset cause strap high) s = .next { s with resetting := left }) ∧
    (left ≠ s.resetting → left = ⟨false, false, false⟩ → exec (.endOfHardReset cause strap high) s = .next { s with
      resetting := left, role := strap, counting := decide (strap = .mast)
      prot := { s.prot with supply := if high then .normal else .deadBand }
      host := { s.host with cause := match cause with
        | .powerOn => .powerOn
        | .pin => .pin
        | .supply => .supply } })

/-- SOFT RESET puts every block at its SOFT reset values and keeps what its chapter keeps: the table with its generation,
lane configuration, protection configuration and supply state, parameters, mask, role; its own OK answer is formed after
the reset (R25, R46, R76, R98, R118, R136, R160, R179, R196, R197). What the framers sent is
cleared with the resets (assumption log 26), and so are halves still to be sent (assumption log 57). -/
def Obligations.SoftResetKeepsConfiguration : Prop :=
  ∀ s : State, Runs s → ∃ t : State, exec (.softReset []) s = .next t ∧
    t.table = ⟨s.table.slots.map fun x => ⟨x.record, ⟨0, 0, 0, 0, 0, 0⟩, []⟩, s.table.generation⟩ ∧
    (∀ l : Fin 4,
      t.lanes.get l = ⟨(s.lanes.get l).enable, (s.lanes.get l).kind, (s.lanes.get l).signal,
        (s.lanes.get l).gradeInput, if (s.lanes.get l).enable then .dark else .off, 0, 0, 0, 0, 0, ⟨0, 0, 0, 0⟩, false⟩ ∧
      t.prot.guards.get l = ⟨⟨false, false, false, false⟩, none, none, none, false, 0⟩ ∧
      t.prot.inputs.get l = ⟨0, false⟩) ∧
    t.prot.stormLevel = 0 ∧ t.prot.stormOn = false ∧ t.prot.stormDecay = none ∧
    t.prot.config = s.prot.config ∧ t.prot.supply = s.prot.supply ∧
    t.host = { s.host with held := some ⟨0x3F, .ok, []⟩, flags := 0, cause := .soft } ∧
    t = { State.reset with
      pending := s.pending, role := s.role, resetting := s.resetting, params := s.params
      counting := decide (s.role = .mast), table := t.table, lanes := t.lanes, prot := t.prot, host := t.host }

/-! ### What every step keeps -/

/-- Every step keeps the promises of the lanes and of the protection block: scores in range, QUARANTINED exactly while a
cause is held, every cause with its reason, storm level, posture and decay timer in step, and the protection parameters in
their ranges (R63, R65, R68, R79, R80, R82, R84 to R86, R90, R189). -/
def Obligations.LaneAndProtectionPromisesKept : Prop :=
  ∀ s t : State,
    ScoresInRange s ∧ QuarantineFollowsCauses s ∧ CausesHaveTheirReasons s ∧ StormConsistent s ∧ GuardsInRange s →
    step s = .next t →
    ScoresInRange t ∧ QuarantineFollowsCauses t ∧ CausesHaveTheirReasons t ∧ StormConsistent t ∧ GuardsInRange t

/-- Every step keeps the promises of the circuit table: LIVE slots in ascending number, a bounded change set of distinct
numbers whose edits fit the table, no shared port side in the committed or the projected table at the truck end, a stage
area as R16 allows, and the state of one role empty at the other (R6, R8, R12, R16, R24). -/
def Obligations.TablePromisesKept : Prop :=
  ∀ s t : State,
    ResetHeld s ∧ RoleStateApart s ∧ TableInOrder s ∧ ChangeSetBounded s ∧ EditsFitTable s ∧ PortsApart s ∧
      StageWellFormed s →
    step s = .next t →
    ResetHeld t ∧ RoleStateApart t ∧ TableInOrder t ∧ ChangeSetBounded t ∧ EditsFitTable t ∧ PortsApart t ∧
      StageWellFormed t

/-- Every step keeps the promises of the queues: no queue above its circuit's limit, at most 16,384 cells in the pool, the
exhaustion mark only above 12,288 cells, and cells only where this end is the sending end (R163, R164, R166, R172, R173). -/
def Obligations.QueuePromisesKept : Prop :=
  ∀ s t : State, ResetHeld s ∧ TableInOrder s ∧ QueuesBounded s ∧ QueuesAtSender s → step s = .next t →
    ResetHeld t ∧ TableInOrder t ∧ QueuesBounded t ∧ QueuesAtSender t

/-- Every step keeps the promises of the link: nothing of a plan, an order, a transfer or the far end in STANDBY and
CALLING, the call schedule exactly in CALLING, the miss count within 15, the parameters in their ranges, and no pending
order whose epoch is passed (R112, R113, R119, R121, R130, R131, R141, R142, R187). -/
def Obligations.LinkAndEpochPromisesKept : Prop :=
  ∀ s t : State,
    ResetHeld s ∧ RoleStateApart s ∧ ParamsInRange s ∧ LinkHoldsNothing s ∧ ScheduleFollowsLink s ∧ MissesBounded s ∧
      EpochNotPassed s →
    step s = .next t →
    ResetHeld t ∧ RoleStateApart t ∧ ParamsInRange t ∧ LinkHoldsNothing t ∧ ScheduleFollowsLink t ∧ MissesBounded t ∧
      EpochNotPassed t

/-- Right after reset every promise holds. -/
def Obligations.ResetMeetsEveryPromise : Prop :=
  (ScoresInRange State.reset ∧ QuarantineFollowsCauses State.reset ∧ CausesHaveTheirReasons State.reset ∧
    StormConsistent State.reset ∧ GuardsInRange State.reset) ∧
  (ResetHeld State.reset ∧ RoleStateApart State.reset ∧ TableInOrder State.reset ∧ ChangeSetBounded State.reset ∧
    EditsFitTable State.reset ∧ PortsApart State.reset ∧ StageWellFormed State.reset) ∧
  (QueuesBounded State.reset ∧ QueuesAtSender State.reset) ∧
  (ParamsInRange State.reset ∧ LinkHoldsNothing State.reset ∧ ScheduleFollowsLink State.reset ∧
    MissesBounded State.reset ∧ EpochNotPassed State.reset)
end

