-- ==== Sys2Proof/Laws/Bytes.lean ====
section
/-! SUPPORT. The laws of bytes: a number written in so many bytes has that length and is read back modulo its width, and
where a part of a layout stands (0.4). -/

namespace Sys2Proof

/-- A number in `n` bytes has `n` bytes. -/
@[simp] theorem bytesOfNat_length (n v : Nat) : (bytesOfNat n v).length = n := by
  induction n generalizing v with
  | zero => rfl
  | succ n ih => unfold bytesOfNat; rw [List.length_append, ih]; rfl

/-- Reading goes byte by byte, the most significant first. -/
theorem natOfBytes_append_one (bs : List Byte) (b : Byte) : natOfBytes (bs ++ [b]) = natOfBytes bs * 256 + b.toNat := by
  unfold natOfBytes; rw [List.foldl_append]; rfl

/-- A number in `n` bytes is read back modulo 256 to the `n`. -/
theorem natOfBytes_bytesOfNat (n v : Nat) : natOfBytes (bytesOfNat n v) = v % 256 ^ n := by
  induction n generalizing v with
  | zero => simp [bytesOfNat, natOfBytes, Nat.mod_one]
  | succ n ih =>
    unfold bytesOfNat
    have split : v % (256 * 256 ^ n) = v % 256 + 256 * (v / 256 % 256 ^ n) := Nat.mod_mul
    have power : 256 ^ (n + 1) = 256 * 256 ^ n := Nat.pow_succ'
    rw [natOfBytes_append_one, ih, BitVec.toNat_ofNat, power, split]
    omega

/-- A number that fits its bytes is read back as itself. -/
theorem natOfBytes_bytesOfNat_of_lt {n v : Nat} (h : v < 256 ^ n) : natOfBytes (bytesOfNat n v) = v := by
  rw [natOfBytes_bytesOfNat, Nat.mod_eq_of_lt h]

/-- The part of a layout behind a front of the offset's length. -/
theorem slice_append {front part rest : List Byte} {at_ n : Nat} (hf : front.length = at_) (hp : part.length = n) :
    slice (front ++ part ++ rest) at_ n = part := by
  subst hf hp
  unfold slice
  rw [List.append_assoc, List.drop_left, List.take_left]

/-- A number that stands behind a front of the offset's length is read back. -/
theorem numAt_append {front rest : List Byte} {at_ n v : Nat} (hf : front.length = at_) (hv : v < 256 ^ n) :
    numAt (front ++ bytesOfNat n v ++ rest) at_ n = v := by
  unfold numAt
  rw [slice_append hf (bytesOfNat_length n v), natOfBytes_bytesOfNat_of_lt hv]

/-- A part of a layout has no more bytes than asked for. -/
theorem slice_length_le (bs : List Byte) (at_ n : Nat) : (slice bs at_ n).length ≤ n := by
  unfold slice; exact List.length_take_le _ _

/-- Padding to a length gives that length. -/
@[simp] theorem padTo_length (n : Nat) (bs : List Byte) : (padTo n bs).length = n := by
  unfold padTo
  rw [List.length_take, List.length_append, List.length_replicate]
  omega

/-- Bytes of the length asked for are not padded. -/
theorem padTo_of_length {n : Nat} {bs : List Byte} (h : bs.length = n) : padTo n bs = bs := by
  subst h
  unfold padTo
  rw [Nat.sub_self, List.replicate_zero, List.append_nil, List.take_length]

/-- A CRC-16 takes two bytes. -/
@[simp] theorem crc16Bytes_length (bs : List Byte) : (crc16Bytes bs).length = 2 := bytesOfNat_length _ _

namespace Machine

/-! ### Lengths of layouts (chapter 10) -/

@[simp] theorem stampBytes_length (s : Stamp) : (stampBytes s).length = 4 := by unfold stampBytes; simp

@[simp] theorem recordBytes_length (r : Record) : (recordBytes r).length = 16 := by unfold recordBytes; simp

@[simp] theorem editBytes_length (e : Edit) : (editBytes e).length = 16 := by
  cases e
  · exact recordBytes_length _
  · exact recordBytes_length _
  · exact padTo_length _ _

@[simp] theorem laneReportsBytes_length (p : PerLane LaneReport) : (laneReportsBytes p).length = 12 := by
  unfold laneReportsBytes laneReportBytes; simp

@[simp] theorem viewBytes_length (v : View) : (viewBytes v).length = 8 := by unfold viewBytes laneViewBytes; simp

@[simp] theorem headerBytes_length (l : Fin 4) (c : Count) (s : Stamp) : (headerBytes l c s).length = 13 := by
  unfold headerBytes; simp

@[simp] theorem slotLine_length (x : PayloadSlot) : (slotLine x).length = Config.slotBytes := by
  cases x with
  | data c => unfold slotLine; simp [Config.slotBytes, Config.cellBytes]
  | fill => rfl

/-! ### Codes (R200) -/

theorem kindOf_kindCode (k : Kind) : kindOf (kindCode k) = some k := by cases k <;> rfl

theorem laneStateOf_laneStateCode (s : LaneState) : laneStateOf (laneStateCode s) = some s := by cases s <;> rfl

theorem linkStateOf_linkStateCode (s : LinkState) : linkStateOf (linkStateCode s) = some s := by cases s <;> rfl

theorem classOf_classCode (c : Class) : classOf (classCode c) = some c := by cases c <;> rfl

theorem laneOf_val (l : Fin 4) : laneOf l.val = some l := by unfold laneOf; simp

theorem circuitOf_val (n : Fin 64) : circuitOf n.val = some n := by unfold circuitOf; simp

theorem portOf_val (p : Fin 32) : portOf p.val = some p := by unfold portOf; simp

theorem priorityOf_val (p : Fin 16) : priorityOf p.val = some p := by unfold priorityOf; simp

end Machine

end Sys2Proof
end

