-- ==== Sys2Proof/Laws/State.lean ====
section
/-! SUPPORT. What the plain updates of State leave and what they write: for each named update one lemma for each field,
true by unfolding, so that no later proof unfolds a record update; and the laws of the container of four like things. -/

namespace Sys2Proof

namespace PerLane
variable {α β : Type}

@[simp] theorem get_set_self (p : PerLane α) (i : Fin 4) (a : α) : (p.set i a).get i = a := by
  fin_cases i <;> rfl

theorem get_set_ne (p : PerLane α) {i j : Fin 4} (a : α) (h : j ≠ i) : (p.set i a).get j = p.get j := by
  fin_cases i <;> fin_cases j <;> first | rfl | exact absurd rfl h

theorem get_set (p : PerLane α) (i j : Fin 4) (a : α) : (p.set i a).get j = if j = i then a else p.get j := by
  split
  · next h => rw [h, get_set_self]
  · next h => exact get_set_ne p a h

@[simp] theorem get_all (a : α) (i : Fin 4) : (PerLane.all a).get i = a := by fin_cases i <;> rfl

@[simp] theorem get_ofFn (f : Fin 4 → α) (i : Fin 4) : (PerLane.ofFn f).get i = f i := by fin_cases i <;> rfl

@[simp] theorem get_map (f : α → β) (p : PerLane α) (i : Fin 4) : (p.map f).get i = f (p.get i) := by
  fin_cases i <;> rfl

/-- Two containers that agree at every number are equal. -/
theorem ext_get {p q : PerLane α} (h : ∀ i : Fin 4, p.get i = q.get i) : p = q := by
  have h0 := h 0; have h1 := h 1; have h2 := h 2; have h3 := h 3
  cases p; cases q
  exact congr (congr (congr (congrArg _ h0) h1) h2) h3

@[simp] theorem set_get_self (p : PerLane α) (i : Fin 4) : p.set i (p.get i) = p := by
  apply ext_get
  intro j
  rw [get_set]
  split
  · next h => rw [h]
  · rfl

end PerLane

namespace Machine

open Sys2Proof

/-! ### raise -/

section
variable (f : Flag) (s : State)

@[simp] theorem raise_pending : (raise f s).pending = s.pending := rfl
@[simp] theorem raise_role : (raise f s).role = s.role := rfl
@[simp] theorem raise_resetting : (raise f s).resetting = s.resetting := rfl
@[simp] theorem raise_count : (raise f s).count = s.count := rfl
@[simp] theorem raise_counting : (raise f s).counting = s.counting := rfl
@[simp] theorem raise_params : (raise f s).params = s.params := rfl
@[simp] theorem raise_table : (raise f s).table = s.table := rfl
@[simp] theorem raise_changes : (raise f s).changes = s.changes := rfl
@[simp] theorem raise_stage : (raise f s).stage = s.stage := rfl
@[simp] theorem raise_planner : (raise f s).planner = s.planner := rfl
@[simp] theorem raise_lanes : (raise f s).lanes = s.lanes := rfl
@[simp] theorem raise_handed : (raise f s).handed = s.handed := rfl
@[simp] theorem raise_sent : (raise f s).sent = s.sent := rfl
@[simp] theorem raise_prot : (raise f s).prot = s.prot := rfl
@[simp] theorem raise_chan : (raise f s).chan = s.chan := rfl
@[simp] theorem raise_link : (raise f s).link = s.link := rfl
@[simp] theorem raise_orders : (raise f s).orders = s.orders := rfl
@[simp] theorem raise_service : (raise f s).service = s.service := rfl

@[simp] theorem raise_held : (raise f s).host.held = s.host.held := rfl
@[simp] theorem raise_flags : (raise f s).host.flags = s.host.flags ||| flagWord f := rfl
@[simp] theorem raise_mask : (raise f s).host.mask = s.host.mask := rfl
@[simp] theorem raise_cause : (raise f s).host.cause = s.host.cause := rfl
@[simp] theorem raise_shifted : (raise f s).host.shifted = s.host.shifted := rfl

end

/-! ### respond -/

section
variable (c : Byte) (a : AnswerCode) (b : List Field) (s : State)

@[simp] theorem respond_pending : (respond c a b s).pending = s.pending := rfl
@[simp] theorem respond_role : (respond c a b s).role = s.role := rfl
@[simp] theorem respond_resetting : (respond c a b s).resetting = s.resetting := rfl
@[simp] theorem respond_count : (respond c a b s).count = s.count := rfl
@[simp] theorem respond_counting : (respond c a b s).counting = s.counting := rfl
@[simp] theorem respond_params : (respond c a b s).params = s.params := rfl
@[simp] theorem respond_table : (respond c a b s).table = s.table := rfl
@[simp] theorem respond_changes : (respond c a b s).changes = s.changes := rfl
@[simp] theorem respond_stage : (respond c a b s).stage = s.stage := rfl
@[simp] theorem respond_planner : (respond c a b s).planner = s.planner := rfl
@[simp] theorem respond_lanes : (respond c a b s).lanes = s.lanes := rfl
@[simp] theorem respond_handed : (respond c a b s).handed = s.handed := rfl
@[simp] theorem respond_sent : (respond c a b s).sent = s.sent := rfl
@[simp] theorem respond_prot : (respond c a b s).prot = s.prot := rfl
@[simp] theorem respond_chan : (respond c a b s).chan = s.chan := rfl
@[simp] theorem respond_link : (respond c a b s).link = s.link := rfl
@[simp] theorem respond_orders : (respond c a b s).orders = s.orders := rfl
@[simp] theorem respond_service : (respond c a b s).service = s.service := rfl

@[simp] theorem respond_held : (respond c a b s).host.held = some ⟨c, a, b⟩ := rfl
@[simp] theorem respond_flags : (respond c a b s).host.flags = s.host.flags := rfl
@[simp] theorem respond_mask : (respond c a b s).host.mask = s.host.mask := rfl
@[simp] theorem respond_cause : (respond c a b s).host.cause = s.host.cause := rfl
@[simp] theorem respond_shifted : (respond c a b s).host.shifted = s.host.shifted := rfl

end

/-! ### withPending -/

section
variable (q : List Instr) (s : State)

@[simp] theorem withPending_role : (s.withPending q).role = s.role := rfl
@[simp] theorem withPending_resetting : (s.withPending q).resetting = s.resetting := rfl
@[simp] theorem withPending_count : (s.withPending q).count = s.count := rfl
@[simp] theorem withPending_counting : (s.withPending q).counting = s.counting := rfl
@[simp] theorem withPending_params : (s.withPending q).params = s.params := rfl
@[simp] theorem withPending_table : (s.withPending q).table = s.table := rfl
@[simp] theorem withPending_changes : (s.withPending q).changes = s.changes := rfl
@[simp] theorem withPending_stage : (s.withPending q).stage = s.stage := rfl
@[simp] theorem withPending_planner : (s.withPending q).planner = s.planner := rfl
@[simp] theorem withPending_lanes : (s.withPending q).lanes = s.lanes := rfl
@[simp] theorem withPending_handed : (s.withPending q).handed = s.handed := rfl
@[simp] theorem withPending_sent : (s.withPending q).sent = s.sent := rfl
@[simp] theorem withPending_prot : (s.withPending q).prot = s.prot := rfl
@[simp] theorem withPending_chan : (s.withPending q).chan = s.chan := rfl
@[simp] theorem withPending_link : (s.withPending q).link = s.link := rfl
@[simp] theorem withPending_orders : (s.withPending q).orders = s.orders := rfl
@[simp] theorem withPending_service : (s.withPending q).service = s.service := rfl
@[simp] theorem withPending_host : (s.withPending q).host = s.host := rfl

@[simp] theorem withPending_pending : (s.withPending q).pending = q := rfl

end

/-! ### putGuard -/

section
variable (l : Fin 4) (g : LaneGuard) (s : State)

@[simp] theorem putGuard_pending : (putGuard l g s).pending = s.pending := rfl
@[simp] theorem putGuard_role : (putGuard l g s).role = s.role := rfl
@[simp] theorem putGuard_resetting : (putGuard l g s).resetting = s.resetting := rfl
@[simp] theorem putGuard_count : (putGuard l g s).count = s.count := rfl
@[simp] theorem putGuard_counting : (putGuard l g s).counting = s.counting := rfl
@[simp] theorem putGuard_params : (putGuard l g s).params = s.params := rfl
@[simp] theorem putGuard_table : (putGuard l g s).table = s.table := rfl
@[simp] theorem putGuard_changes : (putGuard l g s).changes = s.changes := rfl
@[simp] theorem putGuard_stage : (putGuard l g s).stage = s.stage := rfl
@[simp] theorem putGuard_planner : (putGuard l g s).planner = s.planner := rfl
@[simp] theorem putGuard_lanes : (putGuard l g s).lanes = s.lanes := rfl
@[simp] theorem putGuard_handed : (putGuard l g s).handed = s.handed := rfl
@[simp] theorem putGuard_sent : (putGuard l g s).sent = s.sent := rfl
@[simp] theorem putGuard_chan : (putGuard l g s).chan = s.chan := rfl
@[simp] theorem putGuard_link : (putGuard l g s).link = s.link := rfl
@[simp] theorem putGuard_orders : (putGuard l g s).orders = s.orders := rfl
@[simp] theorem putGuard_service : (putGuard l g s).service = s.service := rfl
@[simp] theorem putGuard_host : (putGuard l g s).host = s.host := rfl

@[simp] theorem putGuard_inputs : (putGuard l g s).prot.inputs = s.prot.inputs := rfl
@[simp] theorem putGuard_stormLevel : (putGuard l g s).prot.stormLevel = s.prot.stormLevel := rfl
@[simp] theorem putGuard_stormOn : (putGuard l g s).prot.stormOn = s.prot.stormOn := rfl
@[simp] theorem putGuard_stormDecay : (putGuard l g s).prot.stormDecay = s.prot.stormDecay := rfl
@[simp] theorem putGuard_supply : (putGuard l g s).prot.supply = s.prot.supply := rfl
@[simp] theorem putGuard_config : (putGuard l g s).prot.config = s.prot.config := rfl
@[simp] theorem putGuard_guards : (putGuard l g s).prot.guards = s.prot.guards.set l g := rfl

end

/-! ### stopSchedule -/

section
variable (s : State)

@[simp] theorem stopSchedule_pending : (stopSchedule s).pending = s.pending := rfl
@[simp] theorem stopSchedule_role : (stopSchedule s).role = s.role := rfl
@[simp] theorem stopSchedule_resetting : (stopSchedule s).resetting = s.resetting := rfl
@[simp] theorem stopSchedule_count : (stopSchedule s).count = s.count := rfl
@[simp] theorem stopSchedule_counting : (stopSchedule s).counting = s.counting := rfl
@[simp] theorem stopSchedule_params : (stopSchedule s).params = s.params := rfl
@[simp] theorem stopSchedule_table : (stopSchedule s).table = s.table := rfl
@[simp] theorem stopSchedule_changes : (stopSchedule s).changes = s.changes := rfl
@[simp] theorem stopSchedule_stage : (stopSchedule s).stage = s.stage := rfl
@[simp] theorem stopSchedule_planner : (stopSchedule s).planner = s.planner := rfl
@[simp] theorem stopSchedule_lanes : (stopSchedule s).lanes = s.lanes := rfl
@[simp] theorem stopSchedule_handed : (stopSchedule s).handed = s.handed := rfl
@[simp] theorem stopSchedule_sent : (stopSchedule s).sent = s.sent := rfl
@[simp] theorem stopSchedule_prot : (stopSchedule s).prot = s.prot := rfl
@[simp] theorem stopSchedule_chan : (stopSchedule s).chan = s.chan := rfl
@[simp] theorem stopSchedule_orders : (stopSchedule s).orders = s.orders := rfl
@[simp] theorem stopSchedule_service : (stopSchedule s).service = s.service := rfl
@[simp] theorem stopSchedule_host : (stopSchedule s).host = s.host := rfl

@[simp] theorem stopSchedule_link_state : (stopSchedule s).link.state = s.link.state := rfl
@[simp] theorem stopSchedule_link_origin : (stopSchedule s).link.origin = s.link.origin := rfl
@[simp] theorem stopSchedule_link_holdCount : (stopSchedule s).link.holdCount = s.link.holdCount := rfl
@[simp] theorem stopSchedule_link_expiryDue : (stopSchedule s).link.expiryDue = s.link.expiryDue := rfl

end

/-! ### startPhase -/

section
variable (p : CallPhase) (a n : Nat) (s : State)

@[simp] theorem startPhase_pending : (startPhase p a n s).pending = s.pending := rfl
@[simp] theorem startPhase_role : (startPhase p a n s).role = s.role := rfl
@[simp] theorem startPhase_resetting : (startPhase p a n s).resetting = s.resetting := rfl
@[simp] theorem startPhase_count : (startPhase p a n s).count = s.count := rfl
@[simp] theorem startPhase_counting : (startPhase p a n s).counting = s.counting := rfl
@[simp] theorem startPhase_params : (startPhase p a n s).params = s.params := rfl
@[simp] theorem startPhase_table : (startPhase p a n s).table = s.table := rfl
@[simp] theorem startPhase_changes : (startPhase p a n s).changes = s.changes := rfl
@[simp] theorem startPhase_stage : (startPhase p a n s).stage = s.stage := rfl
@[simp] theorem startPhase_planner : (startPhase p a n s).planner = s.planner := rfl
@[simp] theorem startPhase_lanes : (startPhase p a n s).lanes = s.lanes := rfl
@[simp] theorem startPhase_handed : (startPhase p a n s).handed = s.handed := rfl
@[simp] theorem startPhase_sent : (startPhase p a n s).sent = s.sent := rfl
@[simp] theorem startPhase_prot : (startPhase p a n s).prot = s.prot := rfl
@[simp] theorem startPhase_chan : (startPhase p a n s).chan = s.chan := rfl
@[simp] theorem startPhase_orders : (startPhase p a n s).orders = s.orders := rfl
@[simp] theorem startPhase_service : (startPhase p a n s).service = s.service := rfl
@[simp] theorem startPhase_host : (startPhase p a n s).host = s.host := rfl

@[simp] theorem startPhase_link_state : (startPhase p a n s).link.state = s.link.state := rfl
@[simp] theorem startPhase_link_origin : (startPhase p a n s).link.origin = s.link.origin := rfl
@[simp] theorem startPhase_link_holdCount : (startPhase p a n s).link.holdCount = s.link.holdCount := rfl
@[simp] theorem startPhase_link_expiryDue : (startPhase p a n s).link.expiryDue = s.link.expiryDue := rfl
@[simp] theorem startPhase_link_phase : (startPhase p a n s).link.phase = some p := rfl
@[simp] theorem startPhase_link_attempt : (startPhase p a n s).link.attempt = a := rfl
@[simp] theorem startPhase_link_timer : (startPhase p a n s).link.timer = some n := rfl

end

/-! ### startRound -/

section
variable (s : State)

@[simp] theorem startRound_pending : (startRound s).pending = s.pending := rfl
@[simp] theorem startRound_role : (startRound s).role = s.role := rfl
@[simp] theorem startRound_resetting : (startRound s).resetting = s.resetting := rfl
@[simp] theorem startRound_count : (startRound s).count = s.count := rfl
@[simp] theorem startRound_counting : (startRound s).counting = s.counting := rfl
@[simp] theorem startRound_params : (startRound s).params = s.params := rfl
@[simp] theorem startRound_table : (startRound s).table = s.table := rfl
@[simp] theorem startRound_changes : (startRound s).changes = s.changes := rfl
@[simp] theorem startRound_stage : (startRound s).stage = s.stage := rfl
@[simp] theorem startRound_planner : (startRound s).planner = s.planner := rfl
@[simp] theorem startRound_lanes : (startRound s).lanes = s.lanes := rfl
@[simp] theorem startRound_handed : (startRound s).handed = s.handed := rfl
@[simp] theorem startRound_sent : (startRound s).sent = s.sent := rfl
@[simp] theorem startRound_prot : (startRound s).prot = s.prot := rfl
@[simp] theorem startRound_chan : (startRound s).chan = s.chan := rfl
@[simp] theorem startRound_orders : (startRound s).orders = s.orders := rfl
@[simp] theorem startRound_service : (startRound s).service = s.service := rfl
@[simp] theorem startRound_host : (startRound s).host = s.host := rfl

@[simp] theorem startRound_link_state : (startRound s).link.state = s.link.state := rfl
@[simp] theorem startRound_link_origin : (startRound s).link.origin = s.link.origin := rfl
@[simp] theorem startRound_link_holdCount : (startRound s).link.holdCount = s.link.holdCount := rfl
@[simp] theorem startRound_link_expiryDue : (startRound s).link.expiryDue = s.link.expiryDue := rfl

end

/-! ### writeSlot -/

section
variable (x : Slot) (s : State)

@[simp] theorem writeSlot_pending : (writeSlot x s).pending = s.pending := rfl
@[simp] theorem writeSlot_role : (writeSlot x s).role = s.role := rfl
@[simp] theorem writeSlot_resetting : (writeSlot x s).resetting = s.resetting := rfl
@[simp] theorem writeSlot_count : (writeSlot x s).count = s.count := rfl
@[simp] theorem writeSlot_counting : (writeSlot x s).counting = s.counting := rfl
@[simp] theorem writeSlot_params : (writeSlot x s).params = s.params := rfl
@[simp] theorem writeSlot_changes : (writeSlot x s).changes = s.changes := rfl
@[simp] theorem writeSlot_stage : (writeSlot x s).stage = s.stage := rfl
@[simp] theorem writeSlot_planner : (writeSlot x s).planner = s.planner := rfl
@[simp] theorem writeSlot_lanes : (writeSlot x s).lanes = s.lanes := rfl
@[simp] theorem writeSlot_handed : (writeSlot x s).handed = s.handed := rfl
@[simp] theorem writeSlot_sent : (writeSlot x s).sent = s.sent := rfl
@[simp] theorem writeSlot_prot : (writeSlot x s).prot = s.prot := rfl
@[simp] theorem writeSlot_chan : (writeSlot x s).chan = s.chan := rfl
@[simp] theorem writeSlot_link : (writeSlot x s).link = s.link := rfl
@[simp] theorem writeSlot_orders : (writeSlot x s).orders = s.orders := rfl
@[simp] theorem writeSlot_service : (writeSlot x s).service = s.service := rfl
@[simp] theorem writeSlot_host : (writeSlot x s).host = s.host := rfl

@[simp] theorem writeSlot_generation : (writeSlot x s).table.generation = s.table.generation := rfl
@[simp] theorem writeSlot_slots : (writeSlot x s).table.slots = putSlot x s.table.slots := rfl

end

/-! ### keepHandOver -/

section
variable (l : Fin 4) (h : HandOver) (s : State)

@[simp] theorem keepHandOver_pending : (keepHandOver l h s).pending = s.pending := rfl
@[simp] theorem keepHandOver_role : (keepHandOver l h s).role = s.role := rfl
@[simp] theorem keepHandOver_resetting : (keepHandOver l h s).resetting = s.resetting := rfl
@[simp] theorem keepHandOver_count : (keepHandOver l h s).count = s.count := rfl
@[simp] theorem keepHandOver_counting : (keepHandOver l h s).counting = s.counting := rfl
@[simp] theorem keepHandOver_params : (keepHandOver l h s).params = s.params := rfl
@[simp] theorem keepHandOver_table : (keepHandOver l h s).table = s.table := rfl
@[simp] theorem keepHandOver_changes : (keepHandOver l h s).changes = s.changes := rfl
@[simp] theorem keepHandOver_stage : (keepHandOver l h s).stage = s.stage := rfl
@[simp] theorem keepHandOver_planner : (keepHandOver l h s).planner = s.planner := rfl
@[simp] theorem keepHandOver_lanes : (keepHandOver l h s).lanes = s.lanes := rfl
@[simp] theorem keepHandOver_sent : (keepHandOver l h s).sent = s.sent := rfl
@[simp] theorem keepHandOver_prot : (keepHandOver l h s).prot = s.prot := rfl
@[simp] theorem keepHandOver_chan : (keepHandOver l h s).chan = s.chan := rfl
@[simp] theorem keepHandOver_link : (keepHandOver l h s).link = s.link := rfl
@[simp] theorem keepHandOver_orders : (keepHandOver l h s).orders = s.orders := rfl
@[simp] theorem keepHandOver_service : (keepHandOver l h s).service = s.service := rfl
@[simp] theorem keepHandOver_host : (keepHandOver l h s).host = s.host := rfl


end

/-! ### settlePool -/

section
variable (s : State)

@[simp] theorem settlePool_pending : (settlePool s).pending = s.pending := rfl
@[simp] theorem settlePool_role : (settlePool s).role = s.role := rfl
@[simp] theorem settlePool_resetting : (settlePool s).resetting = s.resetting := rfl
@[simp] theorem settlePool_count : (settlePool s).count = s.count := rfl
@[simp] theorem settlePool_counting : (settlePool s).counting = s.counting := rfl
@[simp] theorem settlePool_params : (settlePool s).params = s.params := rfl
@[simp] theorem settlePool_table : (settlePool s).table = s.table := rfl
@[simp] theorem settlePool_changes : (settlePool s).changes = s.changes := rfl
@[simp] theorem settlePool_stage : (settlePool s).stage = s.stage := rfl
@[simp] theorem settlePool_planner : (settlePool s).planner = s.planner := rfl
@[simp] theorem settlePool_lanes : (settlePool s).lanes = s.lanes := rfl
@[simp] theorem settlePool_handed : (settlePool s).handed = s.handed := rfl
@[simp] theorem settlePool_sent : (settlePool s).sent = s.sent := rfl
@[simp] theorem settlePool_prot : (settlePool s).prot = s.prot := rfl
@[simp] theorem settlePool_chan : (settlePool s).chan = s.chan := rfl
@[simp] theorem settlePool_link : (settlePool s).link = s.link := rfl
@[simp] theorem settlePool_orders : (settlePool s).orders = s.orders := rfl
@[simp] theorem settlePool_host : (settlePool s).host = s.host := rfl

@[simp] theorem settlePool_stray : (settlePool s).service.stray = s.service.stray := rfl
@[simp] theorem settlePool_limits : (settlePool s).service.limits = s.service.limits := rfl
@[simp] theorem settlePool_delivered : (settlePool s).service.delivered = s.service.delivered := rfl

end

/-! ### queueMessage -/

section
variable (m : List Byte) (s : State)

@[simp] theorem queueMessage_pending : (queueMessage m s).pending = s.pending := rfl
@[simp] theorem queueMessage_role : (queueMessage m s).role = s.role := rfl
@[simp] theorem queueMessage_resetting : (queueMessage m s).resetting = s.resetting := rfl
@[simp] theorem queueMessage_count : (queueMessage m s).count = s.count := rfl
@[simp] theorem queueMessage_counting : (queueMessage m s).counting = s.counting := rfl
@[simp] theorem queueMessage_params : (queueMessage m s).params = s.params := rfl
@[simp] theorem queueMessage_table : (queueMessage m s).table = s.table := rfl
@[simp] theorem queueMessage_changes : (queueMessage m s).changes = s.changes := rfl
@[simp] theorem queueMessage_stage : (queueMessage m s).stage = s.stage := rfl
@[simp] theorem queueMessage_planner : (queueMessage m s).planner = s.planner := rfl
@[simp] theorem queueMessage_lanes : (queueMessage m s).lanes = s.lanes := rfl
@[simp] theorem queueMessage_handed : (queueMessage m s).handed = s.handed := rfl
@[simp] theorem queueMessage_sent : (queueMessage m s).sent = s.sent := rfl
@[simp] theorem queueMessage_prot : (queueMessage m s).prot = s.prot := rfl
@[simp] theorem queueMessage_link : (queueMessage m s).link = s.link := rfl
@[simp] theorem queueMessage_orders : (queueMessage m s).orders = s.orders := rfl
@[simp] theorem queueMessage_service : (queueMessage m s).service = s.service := rfl
@[simp] theorem queueMessage_host : (queueMessage m s).host = s.host := rfl


end

/-! ### setTiming -/

section
variable (c lead : Nat) (s : State)

@[simp] theorem setTiming_pending : (setTiming c lead s).pending = s.pending := rfl
@[simp] theorem setTiming_role : (setTiming c lead s).role = s.role := rfl
@[simp] theorem setTiming_resetting : (setTiming c lead s).resetting = s.resetting := rfl
@[simp] theorem setTiming_count : (setTiming c lead s).count = s.count := rfl
@[simp] theorem setTiming_counting : (setTiming c lead s).counting = s.counting := rfl
@[simp] theorem setTiming_table : (setTiming c lead s).table = s.table := rfl
@[simp] theorem setTiming_changes : (setTiming c lead s).changes = s.changes := rfl
@[simp] theorem setTiming_stage : (setTiming c lead s).stage = s.stage := rfl
@[simp] theorem setTiming_planner : (setTiming c lead s).planner = s.planner := rfl
@[simp] theorem setTiming_lanes : (setTiming c lead s).lanes = s.lanes := rfl
@[simp] theorem setTiming_handed : (setTiming c lead s).handed = s.handed := rfl
@[simp] theorem setTiming_sent : (setTiming c lead s).sent = s.sent := rfl
@[simp] theorem setTiming_prot : (setTiming c lead s).prot = s.prot := rfl
@[simp] theorem setTiming_link : (setTiming c lead s).link = s.link := rfl
@[simp] theorem setTiming_orders : (setTiming c lead s).orders = s.orders := rfl
@[simp] theorem setTiming_service : (setTiming c lead s).service = s.service := rfl
@[simp] theorem setTiming_host : (setTiming c lead s).host = s.host := rfl


end

/-! ### putInForce -/

section
variable (st : Stamp) (v : View) (s : State)

@[simp] theorem putInForce_pending : (putInForce st v s).pending = s.pending := rfl
@[simp] theorem putInForce_role : (putInForce st v s).role = s.role := rfl
@[simp] theorem putInForce_resetting : (putInForce st v s).resetting = s.resetting := rfl
@[simp] theorem putInForce_count : (putInForce st v s).count = s.count := rfl
@[simp] theorem putInForce_counting : (putInForce st v s).counting = s.counting := rfl
@[simp] theorem putInForce_params : (putInForce st v s).params = s.params := rfl
@[simp] theorem putInForce_table : (putInForce st v s).table = s.table := rfl
@[simp] theorem putInForce_changes : (putInForce st v s).changes = s.changes := rfl
@[simp] theorem putInForce_stage : (putInForce st v s).stage = s.stage := rfl
@[simp] theorem putInForce_lanes : (putInForce st v s).lanes = s.lanes := rfl
@[simp] theorem putInForce_handed : (putInForce st v s).handed = s.handed := rfl
@[simp] theorem putInForce_sent : (putInForce st v s).sent = s.sent := rfl
@[simp] theorem putInForce_prot : (putInForce st v s).prot = s.prot := rfl
@[simp] theorem putInForce_chan : (putInForce st v s).chan = s.chan := rfl
@[simp] theorem putInForce_link : (putInForce st v s).link = s.link := rfl
@[simp] theorem putInForce_service : (putInForce st v s).service = s.service := rfl
@[simp] theorem putInForce_host : (putInForce st v s).host = s.host := rfl

@[simp] theorem putInForce_stamp : (putInForce st v s).orders.stamp = st := rfl
@[simp] theorem putInForce_view : (putInForce st v s).orders.view = some v := rfl
@[simp] theorem putInForce_planner : (putInForce st v s).planner = takePlan st s.planner := rfl

end

/-! ### startDecay -/

section
variable (s : State)

@[simp] theorem startDecay_pending : (startDecay s).pending = s.pending := rfl
@[simp] theorem startDecay_role : (startDecay s).role = s.role := rfl
@[simp] theorem startDecay_resetting : (startDecay s).resetting = s.resetting := rfl
@[simp] theorem startDecay_count : (startDecay s).count = s.count := rfl
@[simp] theorem startDecay_counting : (startDecay s).counting = s.counting := rfl
@[simp] theorem startDecay_params : (startDecay s).params = s.params := rfl
@[simp] theorem startDecay_table : (startDecay s).table = s.table := rfl
@[simp] theorem startDecay_changes : (startDecay s).changes = s.changes := rfl
@[simp] theorem startDecay_stage : (startDecay s).stage = s.stage := rfl
@[simp] theorem startDecay_planner : (startDecay s).planner = s.planner := rfl
@[simp] theorem startDecay_lanes : (startDecay s).lanes = s.lanes := rfl
@[simp] theorem startDecay_handed : (startDecay s).handed = s.handed := rfl
@[simp] theorem startDecay_sent : (startDecay s).sent = s.sent := rfl
@[simp] theorem startDecay_chan : (startDecay s).chan = s.chan := rfl
@[simp] theorem startDecay_link : (startDecay s).link = s.link := rfl
@[simp] theorem startDecay_orders : (startDecay s).orders = s.orders := rfl
@[simp] theorem startDecay_service : (startDecay s).service = s.service := rfl
@[simp] theorem startDecay_host : (startDecay s).host = s.host := rfl


end

/-! ### endRefractory -/

section
variable (i : Fin 4) (s : State)

@[simp] theorem endRefractory_pending : (endRefractory i s).pending = s.pending := rfl
@[simp] theorem endRefractory_role : (endRefractory i s).role = s.role := rfl
@[simp] theorem endRefractory_resetting : (endRefractory i s).resetting = s.resetting := rfl
@[simp] theorem endRefractory_count : (endRefractory i s).count = s.count := rfl
@[simp] theorem endRefractory_counting : (endRefractory i s).counting = s.counting := rfl
@[simp] theorem endRefractory_params : (endRefractory i s).params = s.params := rfl
@[simp] theorem endRefractory_table : (endRefractory i s).table = s.table := rfl
@[simp] theorem endRefractory_changes : (endRefractory i s).changes = s.changes := rfl
@[simp] theorem endRefractory_stage : (endRefractory i s).stage = s.stage := rfl
@[simp] theorem endRefractory_planner : (endRefractory i s).planner = s.planner := rfl
@[simp] theorem endRefractory_lanes : (endRefractory i s).lanes = s.lanes := rfl
@[simp] theorem endRefractory_handed : (endRefractory i s).handed = s.handed := rfl
@[simp] theorem endRefractory_sent : (endRefractory i s).sent = s.sent := rfl
@[simp] theorem endRefractory_chan : (endRefractory i s).chan = s.chan := rfl
@[simp] theorem endRefractory_link : (endRefractory i s).link = s.link := rfl
@[simp] theorem endRefractory_orders : (endRefractory i s).orders = s.orders := rfl
@[simp] theorem endRefractory_service : (endRefractory i s).service = s.service := rfl
@[simp] theorem endRefractory_host : (endRefractory i s).host = s.host := rfl


end

/-! ### raiseIf -/

section
variable (b : Bool) (f : Flag) (s : State)

@[simp] theorem raiseIf_pending : (raiseIf b f s).pending = s.pending := by cases b <;> rfl
@[simp] theorem raiseIf_role : (raiseIf b f s).role = s.role := by cases b <;> rfl
@[simp] theorem raiseIf_resetting : (raiseIf b f s).resetting = s.resetting := by cases b <;> rfl
@[simp] theorem raiseIf_count : (raiseIf b f s).count = s.count := by cases b <;> rfl
@[simp] theorem raiseIf_counting : (raiseIf b f s).counting = s.counting := by cases b <;> rfl
@[simp] theorem raiseIf_params : (raiseIf b f s).params = s.params := by cases b <;> rfl
@[simp] theorem raiseIf_table : (raiseIf b f s).table = s.table := by cases b <;> rfl
@[simp] theorem raiseIf_changes : (raiseIf b f s).changes = s.changes := by cases b <;> rfl
@[simp] theorem raiseIf_stage : (raiseIf b f s).stage = s.stage := by cases b <;> rfl
@[simp] theorem raiseIf_planner : (raiseIf b f s).planner = s.planner := by cases b <;> rfl
@[simp] theorem raiseIf_lanes : (raiseIf b f s).lanes = s.lanes := by cases b <;> rfl
@[simp] theorem raiseIf_handed : (raiseIf b f s).handed = s.handed := by cases b <;> rfl
@[simp] theorem raiseIf_sent : (raiseIf b f s).sent = s.sent := by cases b <;> rfl
@[simp] theorem raiseIf_prot : (raiseIf b f s).prot = s.prot := by cases b <;> rfl
@[simp] theorem raiseIf_chan : (raiseIf b f s).chan = s.chan := by cases b <;> rfl
@[simp] theorem raiseIf_link : (raiseIf b f s).link = s.link := by cases b <;> rfl
@[simp] theorem raiseIf_orders : (raiseIf b f s).orders = s.orders := by cases b <;> rfl
@[simp] theorem raiseIf_service : (raiseIf b f s).service = s.service := by cases b <;> rfl
@[simp] theorem raiseIf_held : (raiseIf b f s).host.held = s.host.held := by cases b <;> rfl
@[simp] theorem raiseIf_mask : (raiseIf b f s).host.mask = s.host.mask := by cases b <;> rfl
@[simp] theorem raiseIf_cause : (raiseIf b f s).host.cause = s.host.cause := by cases b <;> rfl
@[simp] theorem raiseIf_shifted : (raiseIf b f s).host.shifted = s.host.shifted := by cases b <;> rfl
@[simp] theorem raiseIf_flags :
    (raiseIf b f s).host.flags = if b then s.host.flags ||| flagWord f else s.host.flags := by cases b <;> rfl

@[simp] theorem raiseIf_true : raiseIf true f s = raise f s := rfl
@[simp] theorem raiseIf_false : raiseIf false f s = s := rfl

end

/-! ### Flags -/

/-- A flag is read from the flag word alone. -/
theorem flagSet_congr {s t : State} (h : s.host.flags = t.host.flags) (f : Flag) : flagSet f s = flagSet f t := by
  unfold flagSet; rw [h]

/-- Setting a flag sets that flag and no other (R190). -/
@[simp] theorem flagSet_raise (f g : Flag) (s : State) : flagSet g (raise f s) = (flagSet g s || decide (g = f)) := by
  unfold flagSet
  rw [raise_flags, BitVec.getLsbD_or]
  congr 1
  unfold flagWord
  rw [BitVec.getLsbD_twoPow]
  cases f <;> cases g <;> rfl

/-- Setting a flag under a condition. -/
@[simp] theorem flagSet_raiseIf (b : Bool) (f g : Flag) (s : State) :
    flagSet g (raiseIf b f s) = (flagSet g s || (b && decide (g = f))) := by
  cases b <;> simp

@[simp] theorem flagSet_respond (c : Byte) (a : AnswerCode) (b : List Field) (g : Flag) (s : State) :
    flagSet g (respond c a b s) = flagSet g s := rfl

end Machine

end Sys2Proof
end

