-- ==== Sys2Proof/Laws/Requests.lean ====
section
/-! SUPPORT. How a command is taken: while the part runs it has its effect, in hard reset none, and a request is executed
only with a body of its form's length. Later proofs cite these and do not unfold `running` and `request`. -/

namespace Sys2Proof.Machine

open Sys2Proof

/-- The reset conditions alone decide whether the part is held. -/
theorem inReset_congr {s t : State} (h : s.resetting = t.resetting) : inReset s = inReset t := by
  unfold inReset; rw [h]

/-- A part that runs takes a command. -/
theorem running_of_runs {s : State} (h : inReset s = false) (f : State → State) : running s f = .next (f s) := by
  unfold running; rw [h]; rfl

/-- A part held in hard reset takes none. -/
theorem running_of_held {s : State} (h : inReset s = true) (f : State → State) : running s f = .next s := by
  unfold running; rw [h]; rfl

/-- All that `running` can do. -/
theorem running_cases {s t : State} {f : State → State} (h : running s f = .next t) :
    (inReset s = true ∧ t = s) ∨ (inReset s = false ∧ t = f s) := by
  cases hr : inReset s
  · rw [running_of_runs hr] at h
    injection h with h
    exact .inr ⟨rfl, h.symm⟩
  · rw [running_of_held hr] at h
    injection h with h
    exact .inl ⟨rfl, h.symm⟩

/-- `running` always answers a next state. -/
theorem running_next (s : State) (f : State → State) : ∃ t : State, running s f = .next t := by
  unfold running; split
  · exact ⟨s, rfl⟩
  · exact ⟨f s, rfl⟩

/-- A property of the state that the effect keeps is kept by the command. -/
theorem running_keeps {P : State → Prop} {s t : State} {f : State → State} (hs : P s)
    (hf : inReset s = false → P (f s)) (h : running s f = .next t) : P t := by
  obtain ⟨_, rfl⟩ | ⟨hr, rfl⟩ := running_cases h
  · exact hs
  · exact hf hr

/-- A request with a body of its form's length is executed. -/
theorem request_of_length {s : State} (h : inReset s = false) {code : Byte} {n : Nat} {body : List Byte}
    (hb : body.length = n) (f : State → State) : request code n body s f = .next (f s) := by
  unfold request; rw [running_of_runs h, if_pos hb]

/-- A request with a body of another length is answered BAD_FIELD. -/
theorem request_of_other_length {s : State} (h : inReset s = false) {code : Byte} {n : Nat} {body : List Byte}
    (hb : body.length ≠ n) (f : State → State) : request code n body s f = .next (respond code .badField [] s) := by
  unfold request; rw [running_of_runs h, if_neg hb]

/-- All that `request` can do. -/
theorem request_cases {s t : State} {code : Byte} {n : Nat} {body : List Byte} {f : State → State}
    (h : request code n body s f = .next t) :
    (inReset s = true ∧ t = s) ∨ (inReset s = false ∧ body.length = n ∧ t = f s) ∨
      (inReset s = false ∧ body.length ≠ n ∧ t = respond code .badField [] s) := by
  obtain ⟨hr, ht⟩ | ⟨hr, ht⟩ := running_cases h
  · exact .inl ⟨hr, ht⟩
  · by_cases hb : body.length = n
    · rw [if_pos hb] at ht
      exact .inr (.inl ⟨hr, hb, ht⟩)
    · rw [if_neg hb] at ht
      exact .inr (.inr ⟨hr, hb, ht⟩)

/-- A property of the state that the held answer takes no part in and that the effect keeps is kept by a request. -/
theorem request_keeps {P : State → Prop} {s t : State} {code : Byte} {n : Nat} {body : List Byte} {f : State → State}
    (hs : P s) (hr : ∀ a b, P (respond code a b s)) (hf : inReset s = false → body.length = n → P (f s))
    (h : request code n body s f = .next t) : P t := by
  obtain ⟨_, rfl⟩ | ⟨h1, h2, rfl⟩ | ⟨_, _, rfl⟩ := request_cases h
  · exact hs
  · exact hf h1 h2
  · exact hr _ _

end Sys2Proof.Machine
end

