-- ==== Sys2Proof/Laws/Frames.lean ====
section
/-! SUPPORT. What each shared operation leaves alone. `aside…` blanks the fields that a group of operations may touch;
two states with the same `aside…` agree in everything else, and that relation is transitive by itself. Each operation has
one such lemma, and one that says what it writes. -/

namespace Sys2Proof.Machine

open Sys2Proof

/-! ### What is set aside -/

/-- The state without its event flags. -/
def State.asideFlags (s : State) : State := { s with host := { s.host with flags := 0 } }

/-- The state without lanes, protection and event flags. -/
def State.asideGuards (s : State) : State :=
  { s with
    lanes := State.reset.lanes, prot := State.reset.prot, host := { s.host with flags := 0 } }

/-- The state without the LIVE slots, the exhaustion mark and the event flags. -/
def State.asideSlots (s : State) : State :=
  { s with
    table := { s.table with slots := [] }, service := { s.service with exhausted := false }
    host := { s.host with flags := 0 } }

/-- The state without its table, exhaustion mark and event flags. -/
def State.asideTable (s : State) : State :=
  { s with
    table := State.reset.table, service := { s.service with exhausted := false }, host := { s.host with flags := 0 } }

/-- The state without its link state and event flags. -/
def State.asideLink (s : State) : State := { s with link := Link.cleared, host := { s.host with flags := 0 } }

/-- States that agree aside of guards differ in lanes, protection and flags alone. -/
theorem eq_of_asideGuards {s t : State} (h : t.asideGuards = s.asideGuards) :
    t = { s with lanes := t.lanes, prot := t.prot, host := { s.host with flags := t.host.flags } } := by
  cases s; cases t
  simp only [State.asideGuards, State.mk.injEq] at h
  obtain ⟨rfl, rfl, rfl, rfl, rfl, rfl, rfl, rfl, rfl, rfl, _, rfl, rfl, _, rfl, rfl, rfl, rfl, h⟩ := h
  simp only [HostPort.mk.injEq] at h
  obtain ⟨h1, -, h3, h4, h5⟩ := h
  simp only [State.mk.injEq, true_and]
  rw [← h1, ← h3, ← h4, ← h5]

/-- States that agree aside of slots differ in slots, exhaustion mark and flags alone. -/
theorem eq_of_asideSlots {s t : State} (h : t.asideSlots = s.asideSlots) :
    t = { s with
      table := { s.table with slots := t.table.slots }, service := { s.service with exhausted := t.service.exhausted }
      host := { s.host with flags := t.host.flags } } := by
  cases s; cases t
  simp only [State.asideSlots, State.mk.injEq, Table.mk.injEq, Service.mk.injEq, HostPort.mk.injEq, true_and] at h
  obtain ⟨rfl, rfl, rfl, rfl, rfl, rfl, h1, rfl, rfl, rfl, rfl, rfl, rfl, rfl, rfl, rfl, rfl, ⟨h2, h3, h4⟩, h5, h6, h7,
    h8⟩ := h
  simp only [State.mk.injEq, true_and]
  rw [← h1, ← h2, ← h3, ← h4, ← h5, ← h6, ← h7, ← h8]
  exact ⟨rfl, rfl, rfl⟩

/-! ### Flags -/

@[simp] theorem raise_asideFlags (f : Flag) (s : State) : (raise f s).asideFlags = s.asideFlags := rfl
@[simp] theorem raiseIf_asideFlags (b : Bool) (f : Flag) (s : State) : (raiseIf b f s).asideFlags = s.asideFlags := by
  cases b <;> rfl
@[simp] theorem raise_asideGuards (f : Flag) (s : State) : (raise f s).asideGuards = s.asideGuards := rfl
@[simp] theorem raiseIf_asideGuards (b : Bool) (f : Flag) (s : State) :
    (raiseIf b f s).asideGuards = s.asideGuards := by cases b <;> rfl
@[simp] theorem raise_asideSlots (f : Flag) (s : State) : (raise f s).asideSlots = s.asideSlots := rfl
@[simp] theorem raiseIf_asideSlots (b : Bool) (f : Flag) (s : State) : (raiseIf b f s).asideSlots = s.asideSlots := by
  cases b <;> rfl
@[simp] theorem raiseIf_asideTable (b : Bool) (f : Flag) (s : State) : (raiseIf b f s).asideTable = s.asideTable := by
  cases b <;> rfl
@[simp] theorem raiseIf_asideLink (b : Bool) (f : Flag) (s : State) : (raiseIf b f s).asideLink = s.asideLink := by
  cases b <;> rfl

/-! ### Lanes and cause sets -/

/-- Writing a lane touches lanes and flags. -/
@[simp] theorem changeLane_asideGuards (l : Fin 4) (new : Lane) (s : State) :
    (changeLane l new s).asideGuards = s.asideGuards := by unfold changeLane; simp; rfl

/-- What writing a lane writes. -/
theorem changeLane_lanes (l : Fin 4) (new : Lane) (s : State) : (changeLane l new s).lanes = s.lanes.set l new := by
  unfold changeLane; simp

@[simp] theorem changeLane_prot (l : Fin 4) (new : Lane) (s : State) : (changeLane l new s).prot = s.prot := by
  unfold changeLane; simp

/-- Writing a lane sets LANE exactly where the lane's state changes (R69). -/
theorem changeLane_flags (l : Fin 4) (new : Lane) (s : State) (f : Flag) :
    flagSet f (changeLane l new s) =
      (flagSet f s || (decide (new.state ≠ (s.lanes.get l).state) && decide (f = .lane))) := by
  unfold changeLane
  rw [flagSet_raiseIf]
  rfl

/-- Writing a cause set touches lanes, protection and flags. -/
@[simp] theorem setCauses_asideGuards (l : Fin 4) (new : Causes) (s : State) :
    (setCauses l new s).asideGuards = s.asideGuards := by unfold setCauses; rw [changeLane_asideGuards]; rfl

/-- What writing a cause set writes to the protection block. -/
theorem setCauses_prot (l : Fin 4) (new : Causes) (s : State) :
    (setCauses l new s).prot =
      { s.prot with guards := s.prot.guards.set l { s.prot.guards.get l with causes := new } } := by
  unfold setCauses; rw [changeLane_prot]; rfl

/-- What writing a cause set does to the lane (R68, R82). -/
theorem setCauses_lanes (l : Fin 4) (new : Causes) (s : State) :
    (setCauses l new s).lanes =
      s.lanes.set l (quarantineMove (s.prot.guards.get l).causes new (s.lanes.get l)) := by
  unfold setCauses; rw [changeLane_lanes]; rfl

/-- Which flags writing a cause set sets. -/
theorem setCauses_flags (l : Fin 4) (new : Causes) (s : State) (f : Flag) :
    flagSet f (setCauses l new s) = (flagSet f s ||
      (decide ((quarantineMove (s.prot.guards.get l).causes new (s.lanes.get l)).state ≠ (s.lanes.get l).state) &&
        decide (f = .lane))) := by
  unfold setCauses; rw [changeLane_flags]; rfl

@[simp] theorem applyCause_asideGuards (c : Cause) (l : Fin 4) (s : State) :
    (applyCause c l s).asideGuards = s.asideGuards := setCauses_asideGuards _ _ _

@[simp] theorem removeCause_asideGuards (c : Cause) (l : Fin 4) (s : State) :
    (removeCause c l s).asideGuards = s.asideGuards := setCauses_asideGuards _ _ _

@[simp] theorem putGuard_asideGuards (l : Fin 4) (g : LaneGuard) (s : State) :
    (putGuard l g s).asideGuards = s.asideGuards := rfl

/-- The four lanes in turn. -/
theorem onLanes_eq (pick : Fin 4 → Bool) (f : Fin 4 → State → State) (s : State) :
    onLanes pick f s =
      (fun s => if pick 3 then f 3 s else s) ((fun s => if pick 2 then f 2 s else s)
        ((fun s => if pick 1 then f 1 s else s) ((fun s => if pick 0 then f 0 s else s) s))) := rfl

/-- A property that the operation keeps on each lane is kept by all four in turn. -/
theorem onLanes_keeps {P : State → Prop} {pick : Fin 4 → Bool} {f : Fin 4 → State → State}
    (hf : ∀ l s, P s → P (f l s)) {s : State} (h : P s) : P (onLanes pick f s) := by
  have step : ∀ (ls : List (Fin 4)) (s : State), P s → P (ls.foldl (fun s l => if pick l then f l s else s) s) := by
    intro ls
    induction ls with
    | nil => exact fun s h => h
    | cons l ls ih =>
      intro s h
      apply ih
      dsimp only
      split
      · exact hf l s h
      · exact h
  exact step _ _ h

/-- An operation on lanes, protection and flags, done on four lanes, touches no more. -/
theorem onLanes_asideGuards {pick : Fin 4 → Bool} {f : Fin 4 → State → State}
    (hf : ∀ l s, (f l s).asideGuards = s.asideGuards) (s : State) :
    (onLanes pick f s).asideGuards = s.asideGuards :=
  onLanes_keeps (P := fun t => t.asideGuards = s.asideGuards) (fun l t h => (hf l t).trans h) rfl

@[simp] theorem setPosture_asideGuards (on : Bool) (s : State) : (setPosture on s).asideGuards = s.asideGuards := by
  unfold setPosture
  dsimp only
  split
  · rw [onLanes_asideGuards (fun l s => applyCause_asideGuards _ l s)]; rfl
  · rw [onLanes_asideGuards (fun l s => removeCause_asideGuards _ l s)]; rfl

@[simp] theorem setStormLevel_asideGuards (level : Nat) (s : State) :
    (setStormLevel level s).asideGuards = s.asideGuards := by
  unfold setStormLevel
  dsimp only
  split
  · rfl
  · rw [setPosture_asideGuards]; rfl

@[simp] theorem strikeLane_asideGuards (l : Fin 4) (s : State) : (strikeLane l s).asideGuards = s.asideGuards := by
  unfold strikeLane; dsimp only; rw [applyCause_asideGuards]; rfl

@[simp] theorem strikeStorm_asideGuards (s : State) : (strikeStorm s).asideGuards = s.asideGuards := by
  unfold strikeStorm; rw [setStormLevel_asideGuards]; split <;> rfl

@[simp] theorem countStrike_asideGuards (i : Fin 4) (s : State) : (countStrike i s).asideGuards = s.asideGuards := by
  unfold countStrike
  dsimp only
  split
  · rfl
  · rw [onLanes_asideGuards (fun l s => strikeLane_asideGuards l s), strikeStorm_asideGuards, raise_asideGuards,
      raiseIf_asideGuards]; rfl

@[simp] theorem expireStrikeHold_asideGuards (l : Fin 4) (s : State) :
    (expireStrikeHold l s).asideGuards = s.asideGuards := by
  unfold expireStrikeHold; split
  · rw [removeCause_asideGuards, putGuard_asideGuards]
  · rfl

@[simp] theorem expireStormDecay_asideGuards (s : State) : (expireStormDecay s).asideGuards = s.asideGuards := by
  unfold expireStormDecay
  split
  · dsimp only
    rw [setStormLevel_asideGuards]
    split <;> rfl
  · rfl

@[simp] theorem faultDriver_asideGuards (l : Fin 4) (s : State) : (faultDriver l s).asideGuards = s.asideGuards := by
  unfold faultDriver
  dsimp only
  rw [applyCause_asideGuards, raise_asideGuards, raiseIf_asideGuards, putGuard_asideGuards]

@[simp] theorem expireBlanking_asideGuards (l : Fin 4) (s : State) :
    (expireBlanking l s).asideGuards = s.asideGuards := by
  unfold expireBlanking; split
  · exact faultDriver_asideGuards l s
  · rfl

@[simp] theorem releaseDriver_asideGuards (l : Fin 4) (s : State) :
    (releaseDriver l s).asideGuards = s.asideGuards := by
  unfold releaseDriver; rw [removeCause_asideGuards, putGuard_asideGuards]

@[simp] theorem expireRetry_asideGuards (l : Fin 4) (s : State) : (expireRetry l s).asideGuards = s.asideGuards := by
  unfold expireRetry; split
  · exact releaseDriver_asideGuards l s
  · rfl

/-- Every protection timer that expires touches lanes, protection and flags alone. -/
theorem expireGuards_asideGuards (s : State) : (expireGuards s).asideGuards = s.asideGuards := by
  unfold expireGuards
  rw [onLanes_asideGuards (fun l s => expireRetry_asideGuards l s),
    onLanes_asideGuards (fun l s => expireBlanking_asideGuards l s), expireStormDecay_asideGuards,
    onLanes_asideGuards (fun l s => expireStrikeHold_asideGuards l s)]

/-! ### Queues and tables -/

@[simp] theorem settlePool_asideSlots (s : State) : (settlePool s).asideSlots = s.asideSlots := rfl

/-- Cutting queues touches slots, the exhaustion mark and flags (R172). -/
@[simp] theorem trimQueues_asideSlots (limit : Fin 64 → Nat) (s : State) :
    (trimQueues limit s).asideSlots = s.asideSlots := by
  unfold trimQueues; dsimp only; rw [settlePool_asideSlots, raiseIf_asideSlots]; rfl

/-- What cutting queues writes to the slots. -/
theorem trimQueues_slots (limit : Fin 64 → Nat) (s : State) :
    (trimQueues limit s).table.slots = s.table.slots.map fun x => trimSlot (limit x.record.number) x := by
  unfold trimQueues; simp

@[simp] theorem writeCounted_asideSlots (x : Slot) (b : Bool) (s : State) :
    (writeCounted x b s).asideSlots = s.asideSlots := by unfold writeCounted; rw [raiseIf_asideSlots]; rfl

theorem writeCounted_slots (x : Slot) (b : Bool) (s : State) :
    (writeCounted x b s).table.slots = putSlot x s.table.slots := by unfold writeCounted; simp

@[simp] theorem dropCell_asideSlots (x : Slot) (s : State) : (dropCell x s).asideSlots = s.asideSlots := by
  unfold dropCell; exact writeCounted_asideSlots _ _ _

/-- The table after an application (R20 to R22, R173). -/
theorem putTable_table (slots : List Slot) (g : Word16) (b : Bool) (s : State) :
    (putTable slots g b s).table = ⟨slots, g⟩ := by unfold putTable; simp

@[simp] theorem putTable_asideTable (slots : List Slot) (g : Word16) (b : Bool) (s : State) :
    (putTable slots g b s).asideTable = s.asideTable := by
  unfold putTable
  change (raiseIf b .counterSat { s with table := ⟨slots, g⟩ }).asideTable = _
  rw [raiseIf_asideTable]; rfl

/-- The pool's exhaustion mark after any settling is set only above the release level (R166). -/
theorem settlePool_exhausted (s : State) (h : (settlePool s).service.exhausted = true) :
    Config.poolRelease < occupancy s := by
  unfold settlePool at h
  simp only [Bool.and_eq_true, decide_eq_true_eq] at h
  exact h.2

/-! ### Link moves -/

@[simp] theorem setLink_asideLink (k : LinkState) (s : State) : (setLink k s).asideLink = s.asideLink := by
  unfold setLink; rw [raiseIf_asideLink]; rfl

/-- What a move of the link writes. -/
theorem setLink_link (k : LinkState) (s : State) : (setLink k s).link = { s.link with state := k } := by
  unfold setLink; simp

/-- What the forming of the holdover limit writes (R128, R188). -/
theorem formLimit_link (s : State) : (formLimit s).link = { s.link with limit := holdoverLimit s.params } := rfl

@[simp] theorem formLimit_asideLink (s : State) : (formLimit s).asideLink = s.asideLink := rfl

/-- LINK is set at every change of the link state (R133). -/
theorem setLink_flags (k : LinkState) (s : State) (f : Flag) :
    flagSet f (setLink k s) = (flagSet f s || (decide (k ≠ s.link.state) && decide (f = .link))) := by
  unfold setLink; rw [flagSet_raiseIf]; rfl

/-- What an abandoned commit leaves of the orders (R158). -/
theorem abandonCommit_orders (s : State) :
    (abandonCommit s).orders = { s.orders with commit := commitKept s.orders.commit } := by
  unfold abandonCommit; simp

/-- All that a move to CALLING or STANDBY drops, field by field (R45, R130, R131, R174). -/
theorem dropAll_fields (s : State) :
    (dropAll s).planner = Planner.empty ∧ (dropAll s).stage = StageArea.empty ∧
    (dropAll s).chan = droppedChannel s.chan ∧
    (dropAll s).link = { s.link with origin := none, holdCount := 0, expiryDue := false } ∧
    (dropAll s).orders = droppedOrders { s.orders with commit := commitKept s.orders.commit } ∧
    (dropAll s).table = ⟨s.table.slots.map (trimSlot 0), s.table.generation⟩ ∧
    (dropAll s).service = { s.service with exhausted := false, limits := none } := by
  unfold dropAll abandonCommit trimQueues
  simp [settlePool]

/-! ### One lane's evaluation -/

/-- A lane's evaluation touches lanes, what lanes hand on, the count and flags, and of the lanes only its own. -/
theorem evaluateLane_others (l k : Fin 4) (input : LaneInput) (s : State) (h : k ≠ l) :
    (evaluateLane l input s).lanes.get k = s.lanes.get k ∧
      (evaluateLane l input s).handed.get k = s.handed.get k := by
  unfold evaluateLane
  dsimp only
  split
  · exact ⟨PerLane.get_set_ne _ _ h, PerLane.get_set_ne _ _ h⟩
  · refine ⟨?_, ?_⟩
    · simp only [keepHandOver_lanes, raiseIf_lanes, changeLane_lanes]
      exact PerLane.get_set_ne _ _ h
    · unfold keepHandOver
      dsimp only
      rw [PerLane.get_set_ne _ _ h]
      simp [changeLane]

/-- What a lane hands on names the stamp in force by which its superframe was judged (R169). -/
theorem handOver_stamp (s : State) (l : Fin 4) (gained : Bool) (j : Judgement) :
    (handOver s l gained j).stamp = s.orders.stamp := by
  unfold handOver; split <;> rfl

/-- A superframe judged by another stamp than the one in force gives no copy (R169). -/
theorem copyAt_of_other_stamp {s : State} {r : SlotRun} {h : HandOver} (hh : s.handed.get r.lane = some h)
    (hs : h.stamp ≠ s.orders.stamp) (k : Nat) : copyAt s r k = none := by
  unfold copyAt; rw [hh]; exact if_neg hs

/-- All that a named evaluation can do: nothing, or the lane's one evaluation of this superframe, in the state in which an
order whose epoch is reached has been taken (R66, R143, R147). -/
theorem evaluateWhen_cases (pick : Lane → Lane → Bool) (l : Fin 4) (input : LaneInput) (s : State) :
    evaluateWhen pick l input s = s ∨
      ((judgeTakeMast (judgeTakeTruck s)).handed.get l = none ∧
        pick ((judgeTakeMast (judgeTakeTruck s)).lanes.get l) ((evaluateWhen pick l input s).lanes.get l) = true ∧
        evaluateWhen pick l input s = evaluateLane l input (judgeTakeMast (judgeTakeTruck s))) := by
  unfold evaluateWhen evaluateOnce
  dsimp only
  cases hn : ((judgeTakeMast (judgeTakeTruck s)).handed.get l).isNone
  · exact .inl rfl
  · cases hp : pick ((judgeTakeMast (judgeTakeTruck s)).lanes.get l)
        ((evaluateLane l input (judgeTakeMast (judgeTakeTruck s))).lanes.get l)
    · simp [hp]
    · exact .inr (by simp [hp, Option.isNone_iff_eq_none.mp hn])

/-- The score never leaves its range (R63). -/
theorem scoreAfter_le (score damaged : Nat) (valid : Bool) : scoreAfter score damaged valid ≤ Config.scoreMax := by
  unfold scoreAfter; exact Nat.min_le_left _ _

end Sys2Proof.Machine
end

