-- ==== Sys2Proof/Laws/Table.lean ====
section
/-! SUPPORT. The laws of the circuit table: its LIVE slots stay in ascending number under every operation on it, reading a
number after it was written gives what was written, and every other number reads as before (R6, R20 to R22). -/

namespace Sys2Proof.Machine

open Sys2Proof

/-- The canonical form of a table: ascending numbers, so none twice (R6). -/
abbrev Ascending (slots : List Slot) : Prop := (slots.map fun x => x.record.number).Pairwise (· < ·)

theorem ascending_cons {x : Slot} {xs : List Slot} :
    Ascending (x :: xs) ↔ (∀ y ∈ xs, x.record.number < y.record.number) ∧ Ascending xs := by
  unfold Ascending
  rw [List.map_cons, List.pairwise_cons]
  simp

/-! ### Which numbers are LIVE -/

/-- The numbers of a table after a slot is written: its own, and those there were. -/
theorem mem_putSlot {x y : Slot} {xs : List Slot} (h : y ∈ putSlot x xs) : y = x ∨ y ∈ xs := by
  induction xs with
  | nil => exact .inl (List.mem_singleton.1 h)
  | cons z zs ih =>
    unfold putSlot at h
    split at h
    · rcases List.mem_cons.1 h with rfl | h
      · exact .inl rfl
      · exact .inr h
    · split at h
      · rcases List.mem_cons.1 h with rfl | h
        · exact .inl rfl
        · exact .inr (List.mem_cons_of_mem _ h)
      · rcases List.mem_cons.1 h with rfl | h
        · exact .inr List.mem_cons_self
        · rcases ih h with rfl | h
          · exact .inl rfl
          · exact .inr (List.mem_cons_of_mem _ h)

/-- Writing a slot keeps the canonical form. -/
theorem putSlot_ascending (x : Slot) {xs : List Slot} (h : Ascending xs) : Ascending (putSlot x xs) := by
  induction xs with
  | nil => simp [Ascending, putSlot]
  | cons y ys ih =>
    obtain ⟨hy, hys⟩ := ascending_cons.1 h
    unfold putSlot
    split
    · next hxy =>
      refine ascending_cons.2 ⟨fun z hz => ?_, h⟩
      rcases List.mem_cons.1 hz with rfl | hz
      · exact hxy
      · exact lt_trans hxy (hy z hz)
    · split
      · next hxy => exact ascending_cons.2 ⟨fun z hz => hxy ▸ hy z hz, hys⟩
      · next h1 h2 =>
        refine ascending_cons.2 ⟨fun z hz => ?_, ih hys⟩
        rcases mem_putSlot hz with rfl | hz
        · exact lt_of_le_of_ne (not_lt.1 h1) (Ne.symm h2)
        · exact hy z hz

/-- Making a number FREE keeps the canonical form. -/
theorem eraseSlot_ascending (n : Fin 64) {xs : List Slot} (h : Ascending xs) : Ascending (eraseSlot n xs) := by
  unfold Ascending eraseSlot
  exact List.Pairwise.sublist (List.Sublist.map _ List.filter_sublist) h

/-- Applying an edit keeps the canonical form. -/
theorem applyEdit_ascending (role : Role) (e : Edit) {xs : List Slot} (h : Ascending xs) :
    Ascending (applyEdit role xs e) := by
  cases e with
  | add r => exact putSlot_ascending _ h
  | modify r =>
    unfold applyEdit
    dsimp only
    split <;> exact putSlot_ascending _ h
  | retire n => exact eraseSlot_ascending n h

/-- Applying edits in turn keeps the canonical form. -/
theorem applyEdits_ascending (role : Role) (es : List Edit) {xs : List Slot} (h : Ascending xs) :
    Ascending (applyEdits role xs es) := by
  induction es generalizing xs with
  | nil => exact h
  | cons e es ih => exact ih (applyEdit_ascending role e h)

/-- An adopted list is in canonical form (R22). -/
theorem adoptEdits_ascending (es : List Edit) : Ascending (adoptEdits es) :=
  applyEdits_ascending .mast es List.Pairwise.nil

/-- A change of the slots that keeps every number keeps the canonical form. -/
theorem map_ascending {f : Slot → Slot} (hf : ∀ x, (f x).record.number = x.record.number) {xs : List Slot}
    (h : Ascending xs) : Ascending (xs.map f) := by
  unfold Ascending at *
  rw [List.map_map]
  have : (fun x : Slot => x.record.number) ∘ f = fun x => x.record.number := funext hf
  rwa [this]

/-! ### Reading after writing -/

/-- In canonical form the slot at a number is the one listed with it. -/
theorem slotAt_of_mem {xs : List Slot} (h : Ascending xs) {x : Slot} (hx : x ∈ xs) :
    slotAt xs x.record.number = some x := by
  induction xs with
  | nil => cases hx
  | cons y ys ih =>
    obtain ⟨hy, hys⟩ := ascending_cons.1 h
    unfold slotAt
    rw [List.find?_cons]
    rcases List.mem_cons.1 hx with rfl | hx
    · simp
    · have : y.record.number ≠ x.record.number := ne_of_lt (hy x hx)
      simp only [this, decide_false]
      exact ih hys hx

/-- A slot found at a number is listed, with that number. -/
theorem mem_of_slotAt {xs : List Slot} {n : Fin 64} {x : Slot} (h : slotAt xs n = some x) :
    x ∈ xs ∧ x.record.number = n := by
  unfold slotAt at h
  exact ⟨List.mem_of_find?_eq_some h, by simpa using List.find?_some h⟩

/-- Reading a number that was written gives what was written. -/
theorem slotAt_putSlot_self (x : Slot) (xs : List Slot) : slotAt (putSlot x xs) x.record.number = some x := by
  induction xs with
  | nil => simp [slotAt, putSlot]
  | cons y ys ih =>
    unfold putSlot
    split
    · simp [slotAt]
    · split
      · simp [slotAt]
      · next h => 
        unfold slotAt at *
        rw [List.find?_cons]
        have : y.record.number ≠ x.record.number := fun e => h e.symm
        simp only [this, decide_false]
        exact ih

/-- Reading another number gives what it gave before. -/
theorem slotAt_putSlot_ne (x : Slot) (xs : List Slot) {n : Fin 64} (h : n ≠ x.record.number) :
    slotAt (putSlot x xs) n = slotAt xs n := by
  have hx : (decide (x.record.number = n)) = false := decide_eq_false fun e => h e.symm
  induction xs with
  | nil => simp [slotAt, putSlot, hx]
  | cons y ys ih =>
    unfold putSlot
    split
    · unfold slotAt; rw [List.find?_cons, hx]
    · split
      · next e =>
        have hy : (decide (y.record.number = n)) = false := by rw [← e]; exact hx
        unfold slotAt; rw [List.find?_cons, List.find?_cons, hx, hy]
      · unfold slotAt at *
        rw [List.find?_cons, List.find?_cons, ih]

/-- A number made FREE has no slot. -/
theorem slotAt_eraseSlot_self (n : Fin 64) (xs : List Slot) : slotAt (eraseSlot n xs) n = none := by
  unfold slotAt eraseSlot
  rw [List.find?_eq_none]
  intro x hx
  have := (List.mem_filter.1 hx).2
  simpa using this

/-- Every other number reads as before when one is made FREE. -/
theorem slotAt_eraseSlot_ne {n m : Fin 64} (xs : List Slot) (h : m ≠ n) : slotAt (eraseSlot n xs) m = slotAt xs m := by
  induction xs with
  | nil => rfl
  | cons x xs ih =>
    unfold slotAt eraseSlot at *
    rw [List.filter_cons]
    by_cases hx : x.record.number = n
    · have hm : (decide (x.record.number = m)) = false := decide_eq_false fun e => h (e.symm.trans hx)
      simp only [hx, ne_eq, not_true_eq_false, decide_false, Bool.false_eq_true, ↓reduceIte]
      rw [ih, List.find?_cons, hm]
    · simp only [hx, ne_eq, not_false_eq_true, decide_true, ↓reduceIte]
      rw [List.find?_cons, List.find?_cons, ih]

/-- The successor of a generation is never 0 (R7). -/
theorem successor_ne_zero (g : Word16) : successor g ≠ 0 := by
  unfold successor
  split
  · decide
  · next h =>
    intro e
    apply h
    have : g = 0 - 1 := by rw [← e]; simp
    rw [this]; rfl

end Sys2Proof.Machine
end

