-- ==== Sys2Proof/Tests/Slice0.lean ====
section
/-! SUPPORT. The model's own tests. Expected values are the manual's worked examples and tables, named in each comment, or
worked out by hand from a rule. First the smoke test of the well-formedness checks, then formats and single operations,
then one step of each command, then a witness for every statement that has hypotheses. -/

namespace Sys2Proof.Tests

open Sys2Proof Sys2Proof.Machine Sys2Proof.Claims

/-! ### Small states and messages -/

/-- The state that a command leaves. -/
def did (c : Instr) (s : State) : State :=
  match exec c s with
  | .next t => t
  | _ => s

/-- The code of the held answer. -/
def answered (s : State) : Option AnswerCode := s.host.held.map (·.code)

/-- The body of the held answer. -/
def said (s : State) : List Field := (s.host.held.map (·.body)).getD []

/-- The flags that are set. -/
def flags (s : State) : List Flag :=
  ([.lane, .grade, .link, .orderTaken, .serviceReduced, .commitDone, .commitAbandoned, .planMismatch, .strike, .storm,
    .driver, .supply, .poolFull, .counterSat, .callFailed, .badRequest] : List Flag).filter fun f => flagSet f s

/-- The circuits of the example of 1.3. -/
def c0 : Record := ⟨0, .down, 0, 0, .prot, 0, 774, some 387, [0, 1, 2]⟩
def c1 : Record := ⟨1, .down, 1, 1, .standard, 2, 1, none, [3, 0, 1]⟩
def c2 (priority : Fin 16) : Record := ⟨2, .down, 2, 2, .standard, priority, 774, some 387, [1, 0]⟩
def c5 (mastPort truckPort : Fin 32) : Record := ⟨5, .up, mastPort, truckPort, .standard, 3, 3, none, []⟩
def c6 : Record := ⟨6, .up, 5, 4, .standard, 6, 2, none, []⟩

/-- The truck end of the example of 1.3: generation 12 with c0, c1 and c5, the change set as given. -/
def staging (es : List Edit) : State :=
  { State.reset with table := ⟨[newSlot c0, newSlot c1, newSlot (c5 4 4)], 12⟩, changes := es }

/-- An OPTICAL lane report. -/
def report (x : LaneState) : LaneReport := ⟨.optical, x, 0, 0⟩

/-- A mast reply that echoes a cycle, with all lanes IN_SERVICE, from a table of this generation and this stamp. -/
def reply (echo generation : Word16) (stamp : Stamp) (target : Option Word16) (held : Nat) : Reply :=
  ⟨echo, .carrying, generation, target, .change, held, stamp, none, false, PerLane.all (report .inService),
    PerLane.all Causes.none, false, false⟩

/-- A lane that is enabled, OPTICAL, with SIGNAL present, in a state with a score, valid-header run and miss run. -/
def laneIn (x : LaneState) (score validRun missRun : Nat) : Lane :=
  ⟨true, .optical, true, 0, x, score, validRun, missRun, 0, 0, ⟨0, 0, 0, 0⟩, true⟩

/-- A view with every lane OPTICAL at grade 0, usable both ways. -/
def openView : View := PerLane.all ⟨.optical, ⟨true, false, 0⟩, ⟨true, false, 0⟩⟩

/-- The truck end of the example of 7.7: CARRYING at generation 12 with stamp 12/40 in force and the reply given. -/
def carryingAt (count : Nat) (es : List Edit) (m : Reply) : State :=
  { staging es with
    count := BitVec.ofNat 32 count, counting := true
    lanes := PerLane.all (laneIn .inService 0 0 0)
    link := { Link.cleared with state := .carrying }
    orders := { Orders.cleared with stamp := ⟨12, 40⟩, view := some openView, nextNumber := 41 }
    chan := { Channel.cleared with fromMast := some (m, 0) } }

/-- The change set of the example of 1.3 when it is committed. -/
def committed : List Edit := [.add (c2 3), .modify (c5 6 6)]

/-- A commit of it with a phase and a trigger code. -/
def commitJob (phase : CommitPhase) (code : Nat) : CommitJob := ⟨phase, code, 13, 2, ⟨true, true, true⟩⟩

/-- The truck end of that example with its commit, the mast end's stage being complete. -/
def committing (count : Nat) (phase : CommitPhase) (code : Nat) : State :=
  let s := carryingAt count committed (reply 0 12 ⟨12, 40⟩ (some 13) 2)
  { s with orders := { s.orders with commit := some (commitJob phase code) } }

/-- A mast end in CARRYING at generation 12 with stamp 12/40, at a count, its table that of the example. -/
def mastAt (count : Nat) : State :=
  { staging [] with
    role := .mast, count := BitVec.ofNat 32 count, counting := true
    lanes := PerLane.all (laneIn .inService 0 0 0)
    link := { Link.cleared with state := .carrying }
    orders := { Orders.cleared with stamp := ⟨12, 40⟩, view := some openView } }

/-- A steering message of a cycle with C = 8 and lead 40, and an order and an item or none. -/
def steering (cycle : Word16) (order : Option OrderField) (item : Option TransferItem) : Steering :=
  ⟨cycle, .carrying, 12, ⟨12, 40⟩, 8, 40, order, item, false, PerLane.all (report .inService), false, false⟩

/-- The commit order of the example of 7.7. -/
def commitOrder : OrderField := ⟨20089, ⟨13, 41⟩, openView, true⟩

/-- The truck end in CALLING with the schedule in a phase. -/
def callingIn (phase : CallPhase) (attempt timer : Nat) : State :=
  { State.reset with counting := true, link := ⟨.calling, some phase, attempt, some timer, none, 0, 0, false⟩ }

/-- The mast end of the example of 4.4: the masks of inputs 0 and 1, and lane 3 COPPER and storm-isolated. -/
def surges : State :=
  { mastAt 0 with
    lanes := ⟨laneIn .inService 0 0 0, laneIn .inService 0 0 0, laneIn .inService 0 0 0,
      { laneIn .inService 0 0 0 with kind := .copper }⟩
    prot := Protection.cleared .normal { GuardConfig.default with
      masks := ⟨PerLane.all true, ⟨false, false, false, true⟩, PerLane.all true, PerLane.all true⟩
      isolate := ⟨false, false, false, true⟩ } }

/-- The protection of lane 3 replaced. -/
def withGuard (g : LaneGuard) (s : State) : State :=
  { s with prot := { s.prot with guards := s.prot.guards.set 3 g } }

/-- Lane 3 replaced. -/
def withLane3 (x : Lane) (s : State) : State := { s with lanes := s.lanes.set 3 x }

/-- A lane input with SIGNAL present and the bytes of a superframe. -/
def arrives (bytes : List Byte) : LaneInput := ⟨true, some ⟨0, bytes⟩⟩

/-- A lane input with SIGNAL present and nothing received. -/
def silent : LaneInput := ⟨true, none⟩

/-- The superframe of lane 0 with count 100 and stamp 0/0 and no payload: the header of R202 written out, with its check
computed by hand from R199, and an empty control slot. -/
def frame100 : List Byte :=
  [0xE2, 0x59, 0x00, 0x00, 0x00, 0x00, 0x64, 0x00, 0x00, 0x00, 0x00, 0x40, 0xE1] ++ List.replicate 60 0

/-! ### Well-formedness: an ill-formed term for each check -/

/-- A record with these fields of R1. -/
def recordWith (cls : Class) (demand : Nat) (floor : Option Nat) (preference : List (Fin 4)) : Record :=
  ⟨0, .down, 0, 0, cls, 0, demand, floor, preference⟩

/-- R200: each body of a wrong length, an empty transaction, and a cell of 59 bytes. -/
theorem test_wellFormed_refuses_body_lengths :
    (([.identify ⟨0, [0]⟩, .status [0], .events [0], .eventMask [0], .configure [], .laneSetup [], .protectionSetup [],
      .readCircuit [], .stageAdd [], .stageModify [], .stageRetire [], .readChanges [], .discardChanges [0], .commit [],
      .trigger [0, 0, 0, 0], .readPlanCircuit [0, 0], .readPlanLane [1, 0], .readLane [], .readCountersCircuit [0, 0],
      .readCountersEnd [1, 0], .readCountersLane [2, 0], .readCountersProtection [3, 0], .releaseLane [],
      .linkStart [0], .linkStop [0], .softReset [0], .fetch (List.replicate 121 0) 0, .badRequest ⟨0, []⟩,
      .cellArrival 0 (List.replicate 59 0)] : List Instr).all fun i => !i.wellFormed) = true := by decide +kernel

/-- R200: a form byte of another row. -/
theorem test_wellFormed_refuses_form_bytes :
    (([.readPlanCircuit [1, 0, 0], .readPlanLane [0, 0, 0], .readCountersCircuit [1, 0, 0], .readCountersEnd [0, 0, 0],
      .readCountersLane [3, 0, 0], .readCountersProtection [2, 0, 0]] : List Instr).all fun i => !i.wellFormed) = true := by
  decide

/-- R200: FETCH is a listed code. -/
theorem test_wellFormed_refuses_listed_code : (Instr.badCode 0x7E).wellFormed = false := by decide

/-- R1, R2: demand 0 and 2,049, floor 0 and at the demand, a floor with EXTRA, a lane listed twice. -/
theorem test_wellFormed_refuses_records :
    ((recordWith .prot 0 none []).wellFormed || (recordWith .prot 2049 none []).wellFormed ||
      (recordWith .prot 5 (some 0) []).wellFormed || (recordWith .prot 5 (some 5) []).wellFormed ||
      (recordWith .extra 5 (some 1) []).wellFormed || (recordWith .prot 5 none [1, 1]).wellFormed) = false := by decide

/-- R17, R203: index and total past a byte, an edit missing, one too many, and ill-formed records. -/
theorem test_wellFormed_refuses_items :
    ((⟨1, .full, 256, 1, some (.retire 0)⟩ : TransferItem).wellFormed ||
      (⟨1, .full, 0, 256, some (.retire 0)⟩ : TransferItem).wellFormed ||
      (⟨1, .full, 0, 1, none⟩ : TransferItem).wellFormed ||
      (⟨1, .full, 0, 0, some (.retire 0)⟩ : TransferItem).wellFormed ||
      (⟨1, .full, 0, 1, some (.add (recordWith .prot 0 none []))⟩ : TransferItem).wellFormed ||
      (⟨1, .full, 0, 1, some (.modify (recordWith .prot 0 none []))⟩ : TransferItem).wellFormed) = false := by decide

/-- R187, R203: C and the lead just outside their ranges, and an ill-formed item. -/
theorem test_wellFormed_refuses_steering :
    (({ steering 0 none none with c := 1 } : Steering).wellFormed ||
      ({ steering 0 none none with c := 65 } : Steering).wellFormed ||
      ({ steering 0 none none with lead := 23 } : Steering).wellFormed ||
      ({ steering 0 none none with lead := 4097 } : Steering).wellFormed ||
      (Instr.steeringMessage (steering 0 none (some ⟨1, .full, 0, 1, none⟩))).wellFormed) = false := by decide

/-- R16, R203: a held count past a byte, ready stamp 0/0, and no target with items or in FULL mode. -/
theorem test_wellFormed_refuses_replies :
    ((reply 0 0 ⟨0, 0⟩ (some 1) 256).wellFormed || ({ reply 0 0 ⟨0, 0⟩ none 0 with ready := some ⟨0, 0⟩ } : Reply).wellFormed ||
      (reply 0 0 ⟨0, 0⟩ none 1).wellFormed ||
      (Instr.mastReply { reply 0 0 ⟨0, 0⟩ none 0 with stageMode := .full }).wellFormed) = false := by decide

/-- The checks take well-formed terms. -/
theorem test_wellFormed_accepts :
    (([.identify ⟨3, []⟩, .trigger [5, 0, 0, 0xC3, 0x50], .readPlanLane [1, 0, 0], .badCode 0x99, .fetch [] 3,
      .cellArrival 0 (List.replicate 60 0), .steeringMessage (steering 1 (some commitOrder) none),
      .mastReply (reply 1 12 ⟨12, 40⟩ (some 13) 2)] : List Instr).all Instr.wellFormed) = true := by decide +kernel

/-! ### Checks, frames and records -/

/-- The example of R199: the single byte 01 gives 31. -/
theorem test_crc8_example : crc8 [0x01] = 0x31 := by decide

/-- The example of R199: the nine bytes 31 to 39 give 29B1. -/
theorem test_crc16_example : crc16 [0x31, 0x32, 0x33, 0x34, 0x35, 0x36, 0x37, 0x38, 0x39] = 0x29B1 := by decide +kernel

/-- The table of rate conversion examples in 1.1. -/
theorem test_rates_of_the_manual :
    [2970000, 1485000, 9216, 1000, 3840, 7864320].map slotsOfRate =
      [some 774, some 387, some 3, some 1, some 1, some 2048] ∧
    slotsOfRate 0 = none ∧ slotsOfRate 7864321 = none := by decide +kernel

/-- c2's record as message bytes 36-51 of the example of 10.5. -/
def c2Bytes : List Byte :=
  [0x02, 0x01, 0x02, 0x02, 0x03, 0x00, 0x03, 0x06, 0x00, 0x01, 0x83, 0x02, 0x01, 0x00, 0x00, 0x00]

/-- The example of 10.5: c2 is laid out and read back. -/
theorem test_record_bytes_example : recordBytes (c2 3) = c2Bytes ∧ recordOf c2Bytes = some (c2 3) := by decide +kernel

/-- The end of 1.1: demand 1,000 kb/s and floor 500 kb/s convert to 1 and 1 and are refused; the rate form stands in the
top bits of demand and floor (R201). -/
theorem test_equal_rates_refused :
    demandOf true 1000 = some 1 ∧ floorOf true 500 = some (some 1) ∧ floorFits .standard 1 (some 1) = false := by decide

/-- The first half of the steering message of the example of 10.5. -/
theorem test_first_half_example :
    firstHalf (steeringBytes (steering 500 none (some ⟨13, .change, 0, 2, some (.add (c2 3))⟩))) =
      [0x01, 0x01, 0x01, 0xF4, 0x03, 0x00, 0x0C, 0x00, 0x0C, 0x00, 0x28, 0x08, 0x00, 0x28] ++ List.replicate 17 0 ++
      [0x80, 0x00, 0x0D, 0x00, 0x02, 0x01] ++ c2Bytes ++ (laneReportsBytes (PerLane.all (report .inService))).take 7 := by
  decide +kernel

/-- Frames of R200 written out, with checks computed by hand from R199: a request for chip 2 is for chip 2 alone; a grouped
TRIGGER is for every part. -/
theorem test_frames_written_out :
    decodeFrame 2 [0x02, 0x30, 0x00, 0x3E] = some (.linkStart []) ∧ decodeFrame 1 [0x02, 0x30, 0x00, 0x3E] = none ∧
    decodeFrame 1 [0x80, 0x17, 0x05, 0x05, 0x00, 0x00, 0xC3, 0x50, 0xBF] = some (.trigger [5, 0, 0, 0xC3, 0x50]) ∧
    decodeFrame 2 [0x02, 0x13, 0x01, 0x06, 0x3B] = some (.stageRetire [6]) ∧
    decodeFrame 0 [0x00, 0x99, 0x00, 0x8E] = some (.badCode 0x99) := by decide +kernel

/-- The header of lane 0 with count 100 (R202), read on its own lane alone. -/
theorem test_header_written_out :
    headerOf 0 frame100 = some (100, ⟨0, 0⟩) ∧ headerOf 1 frame100 = none := by decide +kernel

/-! ### The planner's worked placements (2.6) -/

/-- The table of 2.6, with ports that take no part. -/
def table14 : List Record :=
  [c0, c1, c2 3, ⟨3, .down, 3, 3, .prot, 1, 3, none, []⟩, ⟨4, .down, 4, 4, .extra, 8, 600, none, []⟩, c5 6 6,
   ⟨10, .up, 10, 10, .prot, 0, 300, some 200, []⟩, ⟨11, .up, 11, 11, .standard, 5, 800, some 400, [1]⟩,
   ⟨12, .up, 12, 12, .extra, 9, 20, none, [3]⟩]

/-- A lane of a view. -/
def laneOfView (kind : Kind) (down up : Option (Bool × Fin 4)) : LaneView :=
  let dir : Option (Bool × Fin 4) → DirView := fun
    | some (suspect, grade) => ⟨true, suspect, grade⟩
    | none => ⟨false, false, 0⟩
  ⟨kind, dir down, dir up⟩

/-- What a plan gives the circuits of a direction: number, status, runs as lane and first slot, slot count. -/
def placed (p : DirPlan) : List (Nat × Served × List (Nat × Nat) × Nat) :=
  p.entries.map fun e => (e.number.val, e.served, e.runs.map fun r => (r.lane.val, r.first), e.slots)

/-- The remaining slots of the four lanes. -/
def left (p : DirPlan) : List Nat := p.rooms.toList.map (·.remaining)

/-- All lanes usable: the first table of 2.6. -/
theorem test_plan_all_lanes :
    let p := planDirection ⟨laneOfView .optical (some (false, 0)) none, laneOfView .optical (some (false, 0)) none,
      laneOfView .radio (some (false, 1)) none, laneOfView .copper (some (false, 0)) none⟩ table14 .down
    placed p = [(0, .fullDual, [(0, 0), (1, 0)], 774), (3, .fullDual, [(0, 774), (1, 774)], 3),
      (1, .fullSingle, [(3, 0)], 1), (2, .fullSingle, [(1, 777)], 774), (4, .fullSingle, [(0, 777)], 600)] ∧
    left p = [671, 497, 128, 31] := by decide +kernel

/-- The view of the second and third tables of 2.6. -/
def lane0Lost : View :=
  ⟨laneOfView .optical none none, laneOfView .optical (some (false, 0)) (some (true, 1)),
    laneOfView .radio (some (false, 1)) (some (false, 0)), laneOfView .copper (some (false, 0)) (some (false, 1))⟩

/-- Lane 0 lost: the second table of 2.6. -/
theorem test_plan_lane_lost_down :
    let p := planDirection lane0Lost table14 .down
    placed p = [(0, .fullSingle, [(1, 0)], 774), (3, .fullDual, [(1, 774), (2, 0)], 3), (1, .fullSingle, [(3, 0)], 1),
      (2, .fullSingle, [(1, 777)], 774), (4, .shed, [], 0)] ∧ left p = [0, 497, 125, 31] := by decide +kernel

/-- Lane 0 lost: the third table of 2.6. -/
theorem test_plan_lane_lost_up :
    let p := planDirection lane0Lost table14 .up
    placed p = [(10, .floorDual, [(2, 0), (1, 0)], 200), (5, .fullSingle, [(2, 200)], 3),
      (11, .fullSingle, [(1, 200)], 800), (12, .shed, [], 0)] ∧ left p = [0, 24, 53, 16] := by decide +kernel

/-- A suspect lane: the last table of 2.6. -/
theorem test_plan_suspect_lane :
    let p := planDirection ⟨laneOfView .optical (some (false, 0)) none, laneOfView .optical (some (true, 0)) none,
      laneOfView .radio (some (false, 1)) none, laneOfView .copper (some (false, 0)) none⟩ table14 .down
    placed p = [(0, .fullDual, [(0, 0), (1, 0)], 774), (3, .fullDual, [(0, 774), (2, 0)], 3),
      (1, .fullSingle, [(3, 0)], 1), (2, .fullSingle, [(0, 777)], 774), (4, .fullSingle, [(1, 774)], 600)] ∧
    left p = [497, 674, 125, 31] := by decide +kernel

/-! ### Lanes, sending and delivery -/

/-- A judgement with a valid header and damaged blocks, and one without a valid header. -/
def damagedBy (n : Nat) : Judgement := ⟨some (0, ⟨0, 0⟩), true, n, [], []⟩

/-- The worked case of a burst in 3.6: score and state after each of the four superframes. -/
theorem test_burst :
    let l1 := (laneIn .inService 0 0 0).evaluate true 800 (damagedBy 20)
    let l2 := l1.evaluate true 800 Judgement.nothing
    let l3 := l2.evaluate true 800 (damagedBy 30)
    let l4 := l3.evaluate true 800 (damagedBy 0)
    [l1, l2, l3, l4].map (fun x => (x.score, x.state, x.missRun)) =
      [(1280, .suspect, 0), (1530, .suspect, 1), (3444, .recovering, 0), (3430, .recovering, 0)] := by decide +kernel

/-- The decay column of the way back from saturation in 3.6. -/
theorem test_decay_bands :
    [4095, 3839, 3070, 1534, 1021, 510, 254, 128].map scoreDecay = [16, 15, 12, 6, 4, 2, 1, 1] := by decide

/-- The sending example of 8.3, circuit c3: two cells queued for three positions. -/
theorem test_sending_example :
    let x := takeCells 3 { newSlot (c2 3) with queue := [[1], [2]] }
    x.queue = [] ∧ x.counters.sent = 2 ∧ x.counters.fill = 1 := by decide +kernel

/-- The six rows of the table of R170. -/
theorem test_positions_table :
    judgePosition (some (.data [1])) (some (.data [2])) = .delivered [1] ∧
    judgePosition (some .fill) (some (.data [2])) = .nothing ∧ judgePosition none none = .lost ∧
    judgePosition none (some (.data [2])) = .rescued [2] ∧ judgePosition none (some .fill) = .nothing := by decide

/-! ### One step of each command -/

/-- R180, R193: the chip address of the pins, four lanes, 64 circuits, 32 ports, a pool of 16,384 cells, 16 edits. -/
theorem test_identify_sizes :
    (said (did (.identify ⟨3, []⟩) State.reset)).drop 4 =
      [.num 1 3, .num 1 4, .num 1 64, .num 1 32, .num 2 16384, .num 1 16, .num 1 64, .num 1 4] := by decide +kernel

/-- R187: the default C and lead as STATUS returns them. -/
theorem test_status_defaults :
    ((said (did (.status []) State.reset)).drop 3).take 2 = [.num 1 8, .num 2 40] := by decide +kernel

/-- The session of 9.7, after its table: EVENTS with the clear set {BAD_REQUEST} releases the line. -/
theorem test_events_release :
    let s := raise .badRequest { State.reset with host := { State.reset.host with mask := flagWord .badRequest } }
    attention s = true ∧ attention (did (.events [0xFF, 0xFF]) s) = false := by decide +kernel

/-- R192: the two bytes are the marks, most significant first. -/
theorem test_eventMask_written : (did (.eventMask [0x80, 0x01]) State.reset).host.mask = 0x8001 := by decide +kernel

/-- The clamping example of 9.4, first row: lead 30 with miss limit 20 while CARRYING. -/
theorem test_configure_refused :
    let s := did (.configure [0x60, 0, 0, 30, 20, 0, 0, 0, 0, 0, 0, 0]) (mastAt 0)
    answered s = some .badState ∧ s.params = Params.default := by decide +kernel

/-- The clamping example of 9.4, second row: miss limit 20 and call window 5 ms. -/
theorem test_configure_clamped :
    let s := did (.configure [0x24, 0, 0, 0, 20, 0, 0, 0, 5, 0, 0, 0]) (mastAt 0)
    answered s = some .clamped ∧ s.params = { Params.default with missLimit := 15, callWindow := 8 } := by decide +kernel

/-- The clamping example of 9.4, third row: blanking code 6 and the mask {3, 5} of input 1. -/
theorem test_protectionSetup_clamped :
    let s := did (.protectionSetup [0x05, 0, 0, 0, 0, 0, 0, 6, 0, 0x28, 0, 0, 0]) (mastAt 0)
    answered s = some .clamped ∧ s.prot.config.blanking = 3 ∧
      s.prot.config.masks.get 1 = ⟨false, false, false, true⟩ := by decide +kernel

/-- R51: an OFF lane that is enabled as COPPER goes to DARK. -/
theorem test_laneSetup_enables :
    let s := did (.laneSetup [3, 2, 1]) State.reset
    (s.lanes.get 3).state = .dark ∧ (s.lanes.get 3).kind = .copper ∧ flags s = [.lane] := by decide +kernel

/-- R15, R201: READ CIRCUIT of c2 returns its record as laid out in 10.5. -/
theorem test_readCircuit_record :
    (said (did (.readCircuit [2]) { State.reset with table := ⟨[newSlot (c2 3)], 1⟩ }))[1]? = some (.bytes c2Bytes) := by
  decide +kernel

/-- Request 1 of the example of 1.3 with its rates already in slots. -/
theorem test_stageAdd_first :
    let s := did (.stageAdd (recordBytes (c2 4))) (staging [])
    answered s = some .ok ∧ s.changes = [.add (c2 4)] := by decide +kernel

/-- Request 7 of the example of 1.3: an ADD over a RETIRE becomes a MODIFY at position 1. -/
theorem test_stageAdd_over_retire :
    let s := did (.stageAdd (recordBytes (c5 6 6))) (staging [.add (c2 3), .retire 5, .add c6])
    said s = [.num 1 5, .num 1 2, .num 1 1, .num 1 1, .num 1 3] ∧
      s.changes = [.add (c2 3), .modify (c5 6 6), .add c6] := by decide +kernel

/-- Request 6 of the example of 1.3: a MODIFY over an ADD stays an ADD. -/
theorem test_stageModify_over_add :
    (did (.stageModify (recordBytes (c2 3))) (staging [.add (c2 4), .retire 5, .add c6])).changes =
      [.add (c2 3), .retire 5, .add c6] := by decide +kernel

/-- Exchanging two ports in 1.3: a MODIFY onto a port that another circuit holds is refused with PORT_TAKEN. -/
theorem test_stageModify_port_taken :
    answered (did (.stageModify (recordBytes { c0 with truckPort := 1 })) (staging [])) = some .portTaken := by
  decide +kernel

/-- Request 8 of the example of 1.3: a RETIRE over an ADD removes it: NONE, length 2. -/
theorem test_stageRetire_over_add :
    let s := did (.stageRetire [6]) (staging [.add (c2 3), .modify (c5 6 6), .add c6])
    s.changes = committed ∧ (said s)[1]? = some (.num 1 0) := by decide +kernel

/-- R14: a position past the end of the change set. -/
theorem test_readChanges_past_end :
    answered (did (.readChanges [2]) (staging committed)) = some .noRecord := by decide +kernel

/-- R13: DISCARD CHANGES in ARMED abandons the commit. -/
theorem test_discardChanges_armed :
    let s := did (.discardChanges []) (committing 0 (.armed none) 5)
    s.changes = [] ∧ s.orders.commit = none ∧ flags s = [.commitAbandoned] := by decide +kernel

/-- The commit example of 7.7 at 20,003: TRANSFERRING, target 13, n 2, unopened. -/
theorem test_commit_begins :
    let s := did (.commit [0]) (carryingAt 20003 committed (reply 0 12 ⟨12, 40⟩ none 0))
    answered s = some .ok ∧
      s.orders.commit = some ⟨.transferring false, 0, 13, 2, ⟨false, false, false⟩⟩ := by decide +kernel

/-- One TRIGGER, three truck ends (7.7): the requested epoch 50,000. -/
theorem test_trigger_arms :
    (did (.trigger [5, 0, 0, 0xC3, 0x50]) (committing 49900 (.armed none) 5)).orders.commit =
      some (commitJob (.armed (some 50000)) 5) := by decide +kernel

/-- Part P of that example: issued at 49,900 with epoch 50,000. -/
theorem test_orderIssue_in_time :
    ((did .orderIssue (committing 49900 (.armed (some 50000)) 5)).orders.commit.map (·.phase)) =
      some (.ordered 50000 false) := by decide +kernel

/-- Part R of that example: issued at 49,970, moved to 50,010. -/
theorem test_orderIssue_moved :
    ((did .orderIssue (committing 49970 (.armed (some 50000)) 5)).orders.commit.map (·.phase)) =
      some (.ordered 50010 true) := by decide +kernel

/-- The commit's plan of the example of 7.7, at each end. -/
def commitPlan : Plan := computePlan ⟨13, 41⟩ openView (projected [c0, c1, c5 4 4] committed)

/-- The commit example of 7.7 at 20,089, truck end: generation 13, COMMIT_DONE, ORDER_TAKEN and SERVICE_REDUCED. -/
theorem test_orderTakeTruck_commit :
    let s := committing 20089 (.ordered 20089 false) 0
    let t := did .orderTakeTruck { s with
      orders := { s.orders with pending := some ⟨20089, ⟨13, 41⟩, openView, .commit⟩ }
      planner := { s.planner with next := some commitPlan } }
    t.table.generation = 13 ∧ recordsOf t.table.slots = [c0, c1, c2 3, c5 6 6] ∧
      flags t = [.orderTaken, .serviceReduced, .commitDone] := by decide +kernel

/-- The same at the mast end: the stage is applied and cleared. -/
theorem test_orderTakeMast_commit :
    let s := mastAt 20089
    let t := did .orderTakeMast { s with
      stage := ⟨some 13, .change, 2, committed⟩
      orders := { s.orders with heard := some ⟨commitOrder, some .changeStage⟩ } }
    t.table.generation = 13 ∧ recordsOf t.table.slots = [c0, c1, c2 3, c5 6 6] ∧ t.stage = StageArea.empty ∧
      t.orders.stamp = ⟨13, 41⟩ := by decide +kernel

/-- R131, R157: an ORDERED commit whose order was withdrawn is completed at its epoch. -/
theorem test_orderedCommitCompletion :
    let t := did .orderedCommitCompletion (committing 20089 (.ordered 20089 false) 0)
    t.table.generation = 13 ∧ t.orders.done = some ⟨13, 20089, false, 0⟩ ∧ flags t = [.commitDone] := by decide +kernel

/-- R41: the run of four records ends after ceil(4 / 4) = 1 superframe (the commit example of 7.7). -/
theorem test_planningRunEnd_places_next :
    let s := committing 20050 (.ordered 20089 false) 0
    let run : Run := ⟨⟨13, 41⟩, openView, projected [c0, c1, c5 4 4] committed, 20049, 20050⟩
    (did .planningRunEnd { s with planner := { s.planner with run := some run } }).planner.next = some commitPlan := by
  decide +kernel

/-- R47: no current plan. -/
theorem test_readPlanCircuit_none : answered (did (.readPlanCircuit [0, 0, 2]) State.reset) = some .none_ := by
  decide +kernel

/-- R48 over the plan of the commit: c0, c1 and c2 stand in the DOWN plan, one dual and two single. -/
theorem test_readPlanLane_served :
    (said (did (.readPlanLane [1, 1, 0]) { State.reset with
      planner := { Planner.empty with next := some commitPlan } })).drop 36 =
      [.num 1 1, .num 1 0, .num 1 2, .num 1 0, .num 1 0] := by decide +kernel

/-- R73: lane 4 does not exist. -/
theorem test_readLane_out_of_range : answered (did (.readLane [4]) State.reset) = some .badField := by decide +kernel

/-- A circuit with counters, for the four reads of counters (R178). -/
def counted : State :=
  { State.reset with table := ⟨[{ newSlot c0 with counters := ⟨1, 2, 3, 4, 5, 6⟩ }], 1⟩,
                     service := { Service.cleared with stray := 7 }
                     lanes := PerLane.all { laneIn .dark 0 0 0 with counters := ⟨1, 2, 3, 4⟩ }
                     prot := { State.reset.prot with inputs := PerLane.all ⟨9, true⟩ } }

/-- R178: the six counters in their order, then zero. -/
theorem test_readCountersCircuit_clears :
    let s := did (.readCountersCircuit [0, 0, 1]) counted
    (said s).drop 1 = [.num 4 1, .num 4 2, .num 4 3, .num 4 4, .num 4 5, .num 4 6] ∧
      s.table.slots.map (·.counters) = [CircuitCounters.zero] := by decide +kernel

/-- R178: the stray-cell counter is answered, then zero. -/
theorem test_readCountersEnd_clears :
    let s := did (.readCountersEnd [1, 0, 1]) counted
    (said s)[0]? = some (.num 4 7) ∧ s.service.stray = 0 := by decide +kernel

/-- R186: the counters of the lane named are cleared, and of no other. -/
theorem test_readCountersLane_clears :
    let s := did (.readCountersLane [2, 1, 1]) counted
    said s = [.num 4 1, .num 4 2, .num 4 3, .num 4 4] ∧ (s.lanes.get 1).counters = ⟨0, 0, 0, 0⟩ ∧
      (s.lanes.get 0).counters = ⟨1, 2, 3, 4⟩ := by decide +kernel

/-- R81: the counts are cleared and the refractory condition stays. -/
theorem test_readCountersProtection_clears :
    let s := did (.readCountersProtection [3, 0, 1]) counted
    (said s)[0]? = some (.num 1 9) ∧ s.prot.inputs.get 0 = ⟨0, true⟩ := by decide +kernel

/-- Lane 3 tripped, as in the example of 4.5. -/
def tripped (retry : Option Nat) : State :=
  withGuard ⟨⟨false, false, true, false⟩, none, retry, none, false, 3⟩
    (withLane3 { laneIn .quarantined 4095 0 0 with kind := .copper, sending := false } surges)

/-- The end of the example of 4.5: OK with an empty cause set, and the lane goes to ALIGNING. -/
theorem test_releaseLane_releases :
    let s := did (.releaseLane [3]) (tripped none)
    answered s = some .ok ∧ said s = [.num 1 0] ∧ (s.lanes.get 3).state = .aligning := by decide +kernel

/-- R92: a lane that does not hold DRIVER. -/
theorem test_releaseLane_refused : answered (did (.releaseLane [2]) (tripped none)) = some .badState := by decide +kernel

/-- The call example of 6.2 at s: WINDOW to s + 320, attempt 1, LINK set. -/
theorem test_linkStart_calls :
    let s := did (.linkStart []) State.reset
    s.link.phase = some .window ∧ s.link.timer = some 320 ∧ s.link.attempt = 1 ∧ flags s = [.link] := by decide +kernel

/-- The call example at s + 320: GAP to s + 720. -/
theorem test_callWindowExpiry_gap :
    let s := did .callWindowExpiry (callingIn .window 1 0)
    s.link.phase = some .gap ∧ s.link.timer = some 400 := by decide +kernel

/-- The call example at s + 1,760: RECALL_WAIT to s + 41,760, CALL_FAILED set. -/
theorem test_callWindowExpiry_fails :
    let s := did .callWindowExpiry (callingIn .window 3 0)
    s.link.phase = some .recallWait ∧ s.link.timer = some 40000 ∧ flags s = [.callFailed] := by decide +kernel

/-- The call example at s + 720: WINDOW, attempt 2. -/
theorem test_gapExpiry_window :
    let s := did .gapExpiry (callingIn .gap 1 0)
    s.link.phase = some .window ∧ s.link.attempt = 2 ∧ s.link.timer = some 320 := by decide +kernel

/-- The call example at s + 41,760: a new round. -/
theorem test_recallWaitExpiry_round :
    let s := did .recallWaitExpiry (callingIn .recallWait 3 0)
    s.link.phase = some .window ∧ s.link.attempt = 1 := by decide +kernel

/-- R131, R132, R158: the stamp goes, an ARMED commit is abandoned, the change set is kept. -/
theorem test_linkStop_drops :
    let s := did (.linkStop []) (committing 0 (.armed none) 5)
    s.link.state = .standby ∧ s.orders.stamp = ⟨0, 0⟩ ∧ s.changes = committed ∧
      flags s = [.link, .commitAbandoned] := by decide +kernel

/-- R196: a SOFT reset keeps the table and the parameters and clears the change set. -/
theorem test_softReset_keeps_table :
    let s := did (.softReset []) (carryingAt 9 committed (reply 0 12 ⟨12, 40⟩ none 0))
    s.table.generation = 12 ∧ s.changes = [] ∧ s.link.state = .standby ∧ s.host.cause = .soft := by decide +kernel

/-- The session of 9.7, transaction 7: chip select released after three bytes. -/
theorem test_fetch_three_bytes :
    answered (did (.fetch [] 3) (did (.events [0, 0]) State.reset)) = some .ok := by decide +kernel

/-- The session of 9.7, transaction 4: NONE with the answer-ready mark clear; the check by hand from R199. -/
theorem test_fetch_none :
    (did (.fetch [] 5) State.reset).host.shifted.take 4 = [0x00, 0x7E, 0x0E, 0x00] := by decide +kernel

/-- The session of 9.7, transaction 5: a damaged check sets BAD_REQUEST and nothing else. -/
theorem test_badRequest_flag :
    flags (did (.badRequest ⟨0, [0x00, 0x30, 0x00, 0xFF]⟩) State.reset) = [.badRequest] := by decide +kernel

/-- R180: the same frame at a part whose pins stand at 2 is not for it. -/
theorem test_badRequest_other_part :
    flags (did (.badRequest ⟨2, [0x00, 0x30, 0x00, 0xFF]⟩) State.reset) = [] := by decide +kernel

/-- R181: a code that is not listed. -/
theorem test_badCode_answered : answered (did (.badCode 0x99) State.reset) = some .badCode := by decide +kernel

/-- R24: the table is empty with generation 0. -/
theorem test_powerOnReset_clears : (did .powerOnReset (mastAt 5)).table = ⟨[], 0⟩ := by decide +kernel

/-- R135, R195: the part is held with the link in STANDBY and the count at 0. -/
theorem test_pinReset_holds :
    let s := did .pinReset (mastAt 5)
    s.resetting.pin = true ∧ s.count = 0 ∧ s.link.state = .standby := by decide +kernel

/-- R195: the supply holds the part. -/
theorem test_supplyReset_holds : (did .supplyReset (mastAt 5)).resetting.supply = true := by decide +kernel

/-- R195, R53: with the strap at MAST and the supply low the part leaves reset as a mast end in DEAD_BAND that counts. -/
theorem test_endOfHardReset_samples :
    let s := did (.endOfHardReset .pin .mast false) { State.reset with resetting := ⟨false, true, false⟩ }
    s.role = .mast ∧ s.prot.supply = .deadBand ∧ s.counting = true ∧ s.host.cause = .pin := by decide +kernel

/-- R93: NORMAL goes to DEAD_BAND and SUPPLY is set. -/
theorem test_supplyBelow_deadBand :
    let s := did .supplyBelowWorkingLevel State.reset
    s.prot.supply = .deadBand ∧ flags s = [.supply] := by decide +kernel

/-- R93: DEAD_BAND returns to NORMAL and SUPPLY is set. -/
theorem test_supplyAbove_normal :
    let s := did .supplyAboveHysteresis { State.reset with prot := { State.reset.prot with supply := .deadBand } }
    s.prot.supply = .normal ∧ flags s = [.supply] := by decide +kernel

/-- R53: the count of a calling truck end advances by 1 and wraps at 2^32; all lanes are OFF and send nothing. -/
theorem test_superframeBoundary_counts :
    (did (.superframeBoundary (PerLane.all ⟨false, none⟩))
      { callingIn .window 1 300 with count := 0xFFFFFFFF }).count = 0 := by decide +kernel

/-- R53: before LINK START the count of a truck end stays at 0. -/
theorem test_superframeBoundary_standby :
    (did (.superframeBoundary (PerLane.all ⟨false, none⟩)) State.reset).count = 0 := by decide +kernel

/-- Lane 0 of a mast end in STANDBY with a lane as given and the others OFF. -/
def adoptingWith (x : Lane) : State :=
  { State.reset with role := .mast, counting := true, lanes := State.reset.lanes.set 0 x }

/-- R53, R61: the second valid header in a row aligns the lane, and the mast end adopts its count. -/
theorem test_alignment_adopts :
    let s := did (.alignment 0 (arrives frame100)) (adoptingWith (laneIn .aligning 4095 1 0))
    (s.lanes.get 0).state = .recovering ∧ s.count = 100 ∧ flags s = [.lane] := by decide +kernel

/-- R53: of two lanes that align in one superframe the lower-numbered gives the count, in either order of commands. -/
theorem test_alignment_tie :
    let s := { adoptingWith (laneIn .aligning 4095 1 0) with
      lanes := (State.reset.lanes.set 0 (laneIn .aligning 4095 1 0)).set 1 (laneIn .aligning 4095 1 0) }
    let other := arrives (SentFrame.line ⟨1, 90, ⟨0, 0⟩, List.replicate 60 0, []⟩)
    (did (.alignment 1 other) s).count = 90 ∧
    (did (.alignment 0 (arrives frame100)) (did (.alignment 1 other) s)).count = 100 ∧
    (did (.alignment 1 other) (did (.alignment 0 (arrives frame100)) s)).count = 100 := by decide +kernel

/-- R62: the fourth superframe without a valid header. -/
theorem test_alignmentLoss_after_four :
    ((did (.alignmentLoss 0 silent) (adoptingWith (laneIn .inService 0 0 3))).lanes.get 0).state = .aligning := by
  decide +kernel

/-- R67: the hold count reaches the default target of 800. -/
theorem test_readmissionHold_completes :
    ((did (.readmissionHoldComplete 0 (arrives frame100))
      (adoptingWith { laneIn .admitting 1 2 0 with holdCount := 799 })).lanes.get 0).state = .inService := by decide +kernel

/-- R49: grade 1 of an OPTICAL lane is effective; the flag is set. -/
theorem test_gradeChange_flag : flags (did (.gradeChange 0 1) (mastAt 0)) = [.grade] := by decide +kernel

/-- R162: a cell at an unbound transmit side is stray. -/
theorem test_cellArrival_stray :
    (did (.cellArrival 9 (List.replicate 60 0)) State.reset).service.stray = 1 := by decide +kernel

/-- The example of 4.4 at 0: level 4, lane 3 STRIKE with hold to 2,000, decay to 80,000. -/
theorem test_countedStrike_first :
    let s := did (.countedStrike 1) surges
    s.prot.stormLevel = 4 ∧ s.prot.stormOn = false ∧ s.prot.stormDecay = some 80000 ∧
      s.prot.guards.get 3 = ⟨⟨true, false, false, false⟩, some 2000, none, none, false, 0⟩ ∧
      flags s = [.lane, .strike] := by decide +kernel

/-- The example of 4.4 at 600: level 8, posture ON, lane 3 STRIKE and STORM. -/
theorem test_countedStrike_storm :
    let s := did (.countedStrike 0) { surges with prot := { surges.prot with stormLevel := 4, stormDecay := some 79400 } }
    s.prot.stormLevel = 8 ∧ s.prot.stormOn = true ∧ s.prot.stormDecay = some 79400 ∧
      (s.prot.guards.get 3).causes = ⟨true, true, false, false⟩ ∧
      (s.prot.guards.get 0).causes = ⟨true, false, false, false⟩ ∧ flags s = [.lane, .strike, .storm] := by decide +kernel

/-- R78: the count stays. -/
theorem test_refractoryEnd :
    ((did (.refractoryEnd 0) counted).prot.inputs.get 0) = ⟨9, false⟩ := by decide +kernel

/-- The example of 4.4 at 2,600: lane 3 keeps STORM and stays QUARANTINED. -/
theorem test_strikeHoldExpiry_keeps_storm :
    let s := did (.strikeHoldExpiry 3) (withGuard ⟨⟨true, true, false, false⟩, some 0, none, none, false, 0⟩
      (withLane3 (laneIn .quarantined 4095 0 0) surges))
    (s.prot.guards.get 3).causes = ⟨false, true, false, false⟩ ∧ (s.lanes.get 3).state = .quarantined := by decide +kernel

/-- A storm of a level, its decay timer expired, lane 3 quarantined by it. -/
def stormAt (level : Nat) : State :=
  let s := withGuard ⟨⟨false, true, false, false⟩, none, none, none, false, 0⟩
    (withLane3 (laneIn .quarantined 4095 0 0) surges)
  { s with prot := { s.prot with stormLevel := level, stormOn := true, stormDecay := some 0 } }

/-- The example of 4.4 at 80,000: level 7, still ON. -/
theorem test_stormDecayExpiry_seven :
    let s := did .stormDecayExpiry (stormAt 8)
    s.prot.stormLevel = 7 ∧ s.prot.stormOn = true ∧ s.prot.stormDecay = some 80000 ∧ flags s = [] := by decide +kernel

/-- The example of 4.4 at 640,000: level 0, OFF, lane 3 released. -/
theorem test_stormDecayExpiry_ends :
    let s := did .stormDecayExpiry (stormAt 1)
    s.prot.stormLevel = 0 ∧ s.prot.stormOn = false ∧ s.prot.stormDecay = none ∧ (s.lanes.get 3).state = .aligning ∧
      flags s = [.lane, .storm] := by decide +kernel

/-- The example of 4.5 at t: LIMITING, blanking to t + 8. -/
theorem test_overcurrent_limits :
    let s := did (.overcurrent 3) surges
    (s.prot.guards.get 3).blanking = some 8 ∧ driverState s 3 = .limiting := by decide +kernel

/-- R89: an overcurrent that ends in time is no fault. -/
theorem test_overcurrentEnd_cancels :
    let s := did (.overcurrentEnd 3) (withGuard ⟨Causes.none, none, none, some 5, true, 0⟩ surges)
    (s.prot.guards.get 3).blanking = none ∧ (s.prot.guards.get 3).faults = 0 := by decide +kernel

/-- The example of 4.5 at t + 8: TRIPPED, retry to t + 1,608, fault count 1, DRIVER and LANE. -/
theorem test_blankingExpiry_faults :
    let s := did (.blankingExpiry 3) (withGuard ⟨Causes.none, none, none, some 0, true, 0⟩ surges)
    driverState s 3 = .tripped ∧ (s.prot.guards.get 3).retry = some 1600 ∧ (s.prot.guards.get 3).faults = 1 ∧
      flags s = [.lane, .driver] := by decide +kernel

/-- The example of 4.5 at t + 1,608: IDLE, LANE. -/
theorem test_driverRetryExpiry_idle :
    let s := did (.driverRetryExpiry 3) (tripped (some 0))
    driverState s 3 = .idle ∧ (s.prot.guards.get 3).causes = Causes.none ∧ flags s = [.lane] := by decide +kernel

/-- R91: THERMAL quarantines the lane and sets DRIVER. -/
theorem test_thermalTrip_quarantines :
    let s := did (.thermalTrip 0) surges
    (s.lanes.get 0).state = .quarantined ∧ flags s = [.lane, .driver] := by decide +kernel

/-- R82, R91: with the last cause gone and SIGNAL present the lane goes to ALIGNING. -/
theorem test_thermalRelease_releases :
    ((did (.thermalRelease 0) (did (.thermalTrip 0) surges)).lanes.get 0).state = .aligning := by decide +kernel

/-- The commit example of 7.7 at 20,024: item 0 is taken into an empty stage; 20,025 is the second half's count. -/
theorem test_steeringMessage_item :
    (did (.steeringMessage (steering 2503 none (some ⟨13, .change, 0, 2, some (.add (c2 3))⟩))) (mastAt 20025)).stage =
      ⟨some 13, .change, 2, [.add (c2 3)]⟩ := by decide +kernel

/-- The commit example at 20,056: the order is heard, and its run of one superframe ends at 20,058. -/
theorem test_steeringMessage_order :
    let t := did (.steeringMessage (steering 2507 (some commitOrder) none))
      { mastAt 20057 with stage := ⟨some 13, .change, 2, committed⟩ }
    t.orders.heard = some ⟨commitOrder, some .changeStage⟩ ∧ t.planner.run.map (·.stop) = some 20058 := by decide +kernel

/-- The commit example at 20,017: the reply answers 2,501 with no target held and opens the transfer. -/
theorem test_mastReply_opens :
    let s := carryingAt 20017 committed (reply 0 12 ⟨12, 40⟩ none 0)
    let t := did (.mastReply (reply 2501 12 ⟨12, 40⟩ none 0))
      { s with orders := { s.orders with commit := some ⟨.transferring false, 0, 13, 2, ⟨false, true, true⟩⟩ } }
    t.orders.commit.map (·.transfer.opened) = some true := by decide +kernel

/-- R113, R114: the fourth miss in a row with the default limit brings silence, and CARRYING goes to HOLDOVER. -/
theorem test_controlCycleEnd_silence :
    let s := did .controlCycleEnd { mastAt 8 with chan := { Channel.cleared with missCount := 3, cycleDue := true } }
    s.chan.missCount = 4 ∧ s.link.state = .holdover ∧ flags s = [.link] := by decide +kernel

/-- R128: the expiry moves the link to CALLING. -/
theorem test_holdoverExpiry_calls :
    (did .holdoverExpiry { mastAt 8 with link := ⟨.holdover, none, 0, none, some .carrying, 4000, 4000, true⟩ }).link.state =
      .calling := by decide +kernel

/-- R128, R188: a CONFIGURE that lowers the holdover base to 1 leaves the limit that STATUS shows until the next cycle end,
which forms 1 x 2^4 and at a holdover count of 16 makes the expiry due. -/
theorem test_holdover_limit_formed :
    let s := { mastAt 8 with link := ⟨.holdover, none, 0, none, some .carrying, 15, 4000, false⟩
                             chan := { Channel.cleared with cycleDue := true } }
    let t := did (.configure [0x10, 0, 0, 0, 0, 1, 0, 0, 0, 0, 0, 0]) s
    t.link.limit = 4000 ∧ (did .controlCycleEnd t).link.limit = 16 ∧ (did .controlCycleEnd t).link.expiryDue = true := by
  decide +kernel

/-- R159: the items of a resync full sync are the LIVE records in ascending number. -/
theorem test_fullSync_items :
    let s := carryingAt 5 [] (reply 0 12 ⟨12, 40⟩ none 0)
    (did .fullSync { s with orders := { s.orders with resync := some .fullSync } }).orders.fullSync =
      some ⟨12, [c0, c1, c5 4 4], ⟨false, false, false⟩⟩ := by decide +kernel

/-! ### Witnesses: a state and operands for the hypotheses of each statement, each clause at the edge of its range -/

/-- An empty queue (O1). -/
theorem witness_StepTakesFrontCommand : State.reset.pending = [] := by decide

/-- A header for another chip and one for every part; each of the five discard cases and none of them; a discarded frame;
a code that no request has (O3). -/
theorem witness_FramesJudgedInOrder :
    ((0x01 : Byte).getLsbD 7 = false ∧ (0x01 : Byte).extractLsb' 0 2 ≠ (0 : BitVec 2) ∧
      (0x80 : Byte).getLsbD 7 = true ∧ (0x02 : Byte).extractLsb' 0 2 = (2 : BitVec 2)) ∧
    (discardCase 0x02 0x30 0x00 [] ∧ discardCase 0x02 0x30 121 (List.replicate 122 0) ∧
      discardCase 0x02 0x30 0x00 [0x3F] ∧ discardCase 0x80 0x01 0x00 [0x21] ∧ discardCase 0x00 0x17 0x00 [0xC0] ∧
      ¬ discardCase 0x02 0x30 0x00 [0x3E]) ∧
    decodeFrame 0 [0x00] = some (.badRequest ⟨0, [0x00]⟩) ∧ (0x99 : Byte) ∉ requestCodes := by
  unfold discardCase; decide +kernel

/-- A request for chip 2, and a grouped TRIGGER (O4). -/
theorem witness_RequestFramesRoundTrip :
    (Instr.linkStart []).wellFormed = true ∧ encodeFrame false 2 (.linkStart []) = some [0x02, 0x30, 0x00, 0x3E] ∧
    (1 : BitVec 2) ≠ 2 ∧ (Instr.trigger [5, 0, 0, 0xC3, 0x50]).wellFormed = true ∧
    encodeFrame true 0 (.trigger [5, 0, 0, 0xC3, 0x50]) =
      some [0x80, 0x17, 0x05, 0x05, 0x00, 0x00, 0xC3, 0x50, 0xBF] := by decide +kernel

/-- Bodies one byte too short and one too long (O5). -/
theorem witness_WrongLengthsRefused :
    ((0x05, 12) : Byte × Nat) ∈ formLengths ∧ Runs State.reset ∧ (List.replicate 11 (0 : Byte)).length ≠ 12 ∧
      (List.replicate 13 (0 : Byte)).length ≠ 12 := by decide

/-- A read of counters with the clear option 0 (O6). -/
theorem witness_ReadingRequestsChangeOnlyTheAnswer :
    readingCode (.readCountersEnd [1, 0, 0]) = some 0x21 ∧ Runs State.reset := by decide

/-- Parts that run (O7). -/
theorem witness_IdentifyAndStatusAnswer : Runs State.reset ∧ Runs (mastAt 7) := by decide +kernel

/-- A part that runs with a flag set (O8). -/
theorem witness_EventsReportAndClear : Runs (raise .badRequest State.reset) := by decide

/-- A part that runs with a flag set (O9). -/
theorem witness_EventMaskAndAttention : Runs (raise .badRequest State.reset) := by decide

/-- C present outside STANDBY and in STANDBY, and neither C nor the lead present (O10). -/
theorem witness_ConfigureWrites :
    (Runs (mastAt 0) ∧ (0x80 : Byte).getLsbD 7 = true ∧ (mastAt 0).link.state ≠ .standby) ∧
    ((0x40 : Byte).getLsbD 6 = true ∧ Runs State.reset ∧ State.reset.link.state = .standby) ∧
    (0x3F : Byte).getLsbD 7 = false ∧ (0x3F : Byte).getLsbD 6 = false := by decide +kernel

/-- The frame NONE of five bytes, clocked out whole and one byte short (O11). -/
theorem witness_FetchShiftsOut :
    Runs State.reset ∧ (frameNow State.reset).length ≤ 5 ∧ ¬ (frameNow State.reset).length ≤ 4 := by decide +kernel

/-- A truck end in CARRYING whose plan in force places c0, c1 and c5. -/
def planned12 : State :=
  let s := carryingAt 5 committed (reply 0 12 ⟨12, 40⟩ none 0)
  { s with planner := { s.planner with current := some (computePlan ⟨12, 40⟩ openView [c0, c1, c5 4 4]) } }

/-- The same with c6 LIVE and without an entry in the plan in force. -/
def unplaced : State := { planned12 with table := ⟨[newSlot c6], 12⟩ }

/-- READ CIRCUIT at both ends of the range, FREE and LIVE, with, without and outside a plan in force; READ CHANGES at either role
inside, at the end of and past its list (O12). -/
theorem witness_CircuitReadsAnswer :
    (64 ≤ (64 : Byte).toNat ∧ (63 : Byte) = BitVec.ofNat 8 (63 : Fin 64).val ∧
      slotAt planned12.table.slots 63 = none) ∧
    (slotAt planned12.table.slots 0 = some (newSlot c0) ∧ planInForce (staging []) = none ∧
      slotAt (staging []).table.slots 0 = some (newSlot c0)) ∧
    ((planInForce planned12).bind fun p => (p.direction .down).entry 0).isSome = true ∧
    (slotAt unplaced.table.slots 6 = some (newSlot c6) ∧
      planInForce unplaced = some (computePlan ⟨12, 40⟩ openView [c0, c1, c5 4 4]) ∧
      (computePlan ⟨12, 40⟩ openView [c0, c1, c5 4 4]).up.entry 6 = none) ∧
    (planned12.role = .truck ∧ 15 < (16 : Byte).toNat ∧ planned12.changes.length ≤ (15 : Byte).toNat ∧
      planned12.changes[(1 : Byte).toNat]? = some (.modify (c5 6 6))) ∧
    ((mastAt 0).role = .mast ∧ 63 < (64 : Byte).toNat ∧ (mastAt 0).stage.items.length ≤ (63 : Byte).toNat ∧
      Runs planned12 ∧ Runs (mastAt 0)) := by decide +kernel

/-- Sixteen RETIREs of other numbers. -/
def fullSet : List Edit := (List.range 16).map fun n => .retire (Fin.ofNat 64 (n + 20))

/-- Staging requests for each test in its order: role, commit, DEAD_BAND, fields, existence both ways, bindings, a full
set, and success by joining and by merging (O13). -/
theorem witness_StagingTestsInOrder :
    (StagingRequest (.stageAdd (recordBytes c6)) 0x11 (some (.add c6)) ∧
      StagingRequest (.stageRetire [64]) 0x13 none) ∧
    ((mastAt 0).role = .mast ∧ (committing 0 (.armed none) 5).orders.commit ≠ none ∧
      eitherDeadBand { staging [] with prot := { State.reset.prot with supply := .deadBand } } = true) ∧
    (Runs (staging []) ∧ (staging []).role = .truck ∧ (staging []).orders.commit = none ∧
      eitherDeadBand (staging []) = false ∧ ((staging committed).changes.map editNumber).Nodup) ∧
    (isAdd (.add c1) = true ∧ liveIn (projected [c0, c1, c5 4 4] []) 1 = true) ∧
    (isAdd (.retire 3) = false ∧ liveIn (projected [c0, c1, c5 4 4] []) 3 = false) ∧
    (liveIn (projected [c0, c1, c5 4 4] []) 6 = !isAdd (.add c6) ∧
      bindsTaken (projected [c0, c1, c5 4 4] (mergeEdit [] (.add c6))) (.add c6) = true) ∧
    (bindsTaken (projected [c0, c1, c5 4 4] (mergeEdit fullSet (.add (c2 3)))) (.add (c2 3)) = false ∧
      heldEdit fullSet 2 = none ∧ 16 ≤ fullSet.length) ∧
    (heldEdit committed 2 ≠ none ∧ committed.length < 16) := by
  refine ⟨⟨?_, ?_⟩, ?_⟩
  · have h := StagingRequest.add (recordBytes c6) (by decide +kernel)
    rwa [show (recordOf (recordBytes c6)).map Edit.add = some (.add c6) from by decide +kernel] at h
  · exact StagingRequest.retireNone 64 (by decide)
  · decide +kernel

/-- A number with no held edit, FREE and LIVE in the committed table, with room and without, and one with a held edit
(O14). -/
theorem witness_StagedRequestsMerge :
    StagingRequest (.stageRetire [5]) 0x13 (some (.retire 5)) ∧
    (Runs (staging committed) ∧ (staging committed).role = .truck ∧ (staging committed).orders.commit = none ∧
      eitherDeadBand (staging committed) = false ∧ ((staging committed).changes.map editNumber).Nodup) ∧
    bindsTaken (projected (recordsOf (staging committed).table.slots) (mergeEdit committed (.retire 5))) (.retire 5) =
      false ∧
    (heldEdit [] (editNumber (.retire 5)) = none ∧ liveIn [c0, c1, c5 4 4] 5 = !isAdd (.retire 5) ∧
      ([] : List Edit).length < 16 ∧ 16 ≤ fullSet.length ∧ heldEdit fullSet 5 = none) ∧
    committed[1]? = some (.modify (c5 6 6)) ∧ editNumber (.modify (c5 6 6)) = editNumber (.retire 5) := by
  refine ⟨StagingRequest.retire 5, ?_⟩
  decide +kernel

/-- The mast end, and the truck end with no commit, with one ARMED and with one ORDERED (O15). -/
theorem witness_DiscardChangesByState :
    Runs (mastAt 0) ∧ (mastAt 0).role = .mast ∧ Runs (staging committed) ∧ (staging committed).orders.commit = none ∧
    (committing 0 (.armed none) 5).orders.commit = some (commitJob (.armed none) 5) ∧
    (committing 0 (.ordered 9 true) 5).orders.commit = some (commitJob (.ordered 9 true) 5) := by decide +kernel

/-- A table in order with a FREE and a LIVE number, a MODIFY that keeps this end sending and one that makes it receiving
(O16). -/
theorem witness_EditsAppliedOneByOne :
    (((staging []).table.slots.map fun x => x.record.number).Pairwise (· < ·)) ∧
    slotAt (staging []).table.slots 2 = none ∧ slotAt (staging []).table.slots 5 = some (newSlot (c5 4 4)) ∧
    ((c5 6 6).direction = .down ↔ Role.truck = .mast) ∧ ¬ ((c5 6 6).direction = .down ↔ Role.mast = .mast) ∧
    (newSlot (c5 4 4)).counters.dropped ≤ 4294967295 := by decide +kernel

/-- A well-formed record, a record that is read, one with the number 64 and one with a lane listed twice; rates at both ends
of the range and past them (O17). -/
theorem witness_RecordsAndRatesRead :
    (c2 3).wellFormed = true ∧ slotsOfRate 1 = some 1 ∧ slotsOfRate 7864320 = some 2048 ∧ slotsOfRate 7864321 = none ∧
    recordOf c2Bytes = some (c2 3) ∧ recordOf (c2Bytes.set 0 64) = none ∧ recordOf (c2Bytes.set 13 1) = none := by
  decide +kernel

/-- Codes 15 and 16; a running commit, a running full sync, a link that is not CARRYING, DEAD_BAND, an empty change set
and a COMMIT that passes (O18). -/
theorem witness_CommitTestsInOrder :
    Runs (mastAt 0) ∧ 15 < (16 : Byte).toNat ∧ (15 : Byte).toNat ≤ 15 ∧
    (committing 0 (.armed none) 5).orders.commit ≠ none ∧
    (staging []).orders.fullSync = none ∧ (staging []).link.state ≠ .carrying ∧
    eitherDeadBand { planned12 with prot := { planned12.prot with supply := .deadBand } } = true ∧
    (Runs planned12 ∧ planned12.role = .truck ∧ planned12.orders.commit = none ∧ planned12.orders.fullSync = none ∧
      planned12.link.state = .carrying ∧ eitherDeadBand planned12 = false ∧ planned12.changes ≠ []) ∧
    StagingRequest (.stageRetire [5]) 0x13 (some (.retire 5)) := by
  refine ⟨by decide +kernel, by decide, by decide, by decide +kernel, by decide +kernel, by decide +kernel,
    by decide +kernel, by decide +kernel, StagingRequest.retire 5⟩

/-- A commit ARMED and untriggered with code 5, one already triggered, and a body of another length (O19). -/
theorem witness_TriggerArmedCommit :
    (Runs (committing 9 (.armed none) 5) ∧ (committing 9 (.armed none) 5).role = .truck ∧
      (commitJob (.armed none) 5).phase = .armed none ∧ (commitJob (.armed none) 5).code = (5 : Byte).toNat ∧
      (5 : Byte) ≠ 0) ∧
    (commitJob (.armed (some 9)) 5).phase ≠ .armed none ∧ (mastAt 0).role = .mast ∧ ([] : List Byte).length ≠ 5 := by
  decide +kernel

/-- A CARRYING truck end whose view in force is another one, with no order pending. -/
def wantingOrder : State :=
  let s := carryingAt 5 [] (reply 0 12 ⟨12, 40⟩ none 0)
  { s with orders := { s.orders with view := none } }

/-- An order may be issued and is wanted; no order may be issued for want of a reply, at the mast end, and while one is
pending (O20). -/
theorem witness_PlainOrderIssued :
    Runs wantingOrder ∧ MayIssue wantingOrder (reply 0 12 ⟨12, 40⟩ none 0) openView ∧
    wantingOrder.orders.fullSync = none ∧ commitMayOrder wantingOrder (reply 0 12 ⟨12, 40⟩ none 0) = false ∧
    plainWanted wantingOrder openView = true ∧
    plainWanted (carryingAt 5 [] (reply 0 12 ⟨12, 40⟩ none 0)) openView = false ∧ State.reset.chan.fromMast = none ∧
    (mastAt 0).role = .mast := by
  unfold MayIssue; decide +kernel

/-- A full sync whose stage is complete; a commit that may order, its request in time at the lead and one below it, and
with no request (O21). -/
theorem witness_CommitAndFullSyncOrdersIssued :
    (Runs (committing 49960 (.armed (some 50000)) 5) ∧
      MayIssue (committing 49960 (.armed (some 50000)) 5) (reply 0 12 ⟨12, 40⟩ (some 13) 2) openView ∧
      (committing 49960 (.armed (some 50000)) 5).orders.fullSync = none ∧
      wantsOrder (commitJob (.armed (some 50000)) 5) = some 50000 ∧ wantsOrder (commitJob (.transferring true) 0) = some 0 ∧
      commitMayOrder (committing 49960 (.armed (some 50000)) 5) (reply 0 12 ⟨12, 40⟩ (some 13) 2) = true) ∧
    requestInTime (committing 49960 (.armed none) 5) 50000 = true ∧
    requestInTime (committing 49961 (.armed none) 5) 50000 = false ∧
    stageComplete { reply 0 12 ⟨12, 40⟩ (some 12) 3 with stageMode := .full } ⟨true, true, true⟩ 12 .full 3 = true := by
  unfold MayIssue; decide +kernel

/-- A reply held and none held; a lane usable and one that is not (O22). -/
theorem witness_AgreedViewJoinsBothEnds :
    State.reset.chan.fromMast = none ∧ planned12.chan.fromMast = some (reply 0 12 ⟨12, 40⟩ none 0, 0) ∧
    agreedView planned12 = some openView ∧
    ((agreedView { planned12 with lanes := PerLane.all (laneIn .dark 0 0 0) }).map fun v => v.l0.down.usable) =
      some false := by decide +kernel

/-- A run that ends now, for a stamp that is not and one that is in force (O23). -/
theorem witness_RunEndPlacesPlan :
    let run : Run := ⟨⟨13, 41⟩, openView, [c0], 4, 5⟩
    Runs planned12 ∧ run.stop = planned12.count ∧ run.stamp ≠ planned12.orders.stamp ∧
    ({ run with stamp := ⟨12, 40⟩ } : Run).stamp = planned12.orders.stamp ∧ planned12.planner.run = none := by
  decide +kernel

/-- A marked resync with nothing in its way, and none marked (O24). -/
theorem witness_ResyncFullSyncStarts :
    let s := { planned12 with orders := { planned12.orders with resync := some .fullSync } }
    Runs s ∧ s.role = .truck ∧ s.orders.resync = some .fullSync ∧ s.orders.pending = none ∧ s.orders.fullSync = none ∧
    ordered s = false ∧ TableInOrder s ∧ planned12.orders.resync ≠ some .fullSync := by decide +kernel

/-- A plain order at its epoch, a commit's order with its commit ORDERED, and an order whose epoch is ahead (O25). -/
theorem witness_TruckTakesOrder :
    let plain : Order := ⟨5, ⟨12, 41⟩, openView, .plain⟩
    let s := { planned12 with orders := { planned12.orders with pending := some plain } }
    Runs s ∧ s.role = .truck ∧ s.orders.pending = some plain ∧ plain.epoch = s.count ∧ plain.kind ≠ .commit ∧
    ({ plain with epoch := 6 } : Order).epoch ≠ s.count ∧ ({ plain with kind := .commit } : Order).kind = .commit ∧
    (commitJob (.ordered 5 false) 0).phase = .ordered 5 false := by decide +kernel

/-- A heard order at its epoch with a stage held and with none, and one whose epoch is ahead (O26). -/
theorem witness_MastTakesOrder :
    let s := { mastAt 20089 with
      stage := ⟨some 13, .change, 2, committed⟩
      orders := { (mastAt 20089).orders with heard := some ⟨commitOrder, some .changeStage⟩ } }
    Runs s ∧ s.role = .mast ∧ s.orders.heard = some ⟨commitOrder, some .changeStage⟩ ∧ commitOrder.epoch = s.count ∧
    s.stage.target = some 13 ∧ commitOrder.epoch ≠ (mastAt 20088).count ∧ (planned12).role = .truck ∧
    (mastAt 20089).stage.target = none := by decide +kernel

/-- An ORDERED commit without its order, at its epoch and one superframe before (O27). -/
theorem witness_OrderedCommitCompletes :
    let s := committing 20089 (.ordered 20089 false) 0
    Runs s ∧ s.role = .truck ∧ s.orders.commit = some (commitJob (.ordered 20089 false) 0) ∧ s.orders.pending = none ∧
    (20089 : Count) = s.count ∧ (20089 : Count) ≠ (committing 20088 (.ordered 20089 false) 0).count := by decide +kernel

/-- The table of 2.6: preferences without repeats (O28). -/
theorem witness_PlanSlotsApart : ∀ r ∈ table14, r.preference.Nodup := by decide +kernel

/-- The distinct numbers of that table (O29). -/
theorem witness_PlacementOrderOfEntries : (table14.map (·.number)).Nodup := by decide +kernel

/-- A preference without repeats, and a record of each class (O30). -/
theorem witness_PlacementSteps :
    c0.preference.Nodup ∧ c0.cls = .prot ∧ c1.cls = .standard ∧ (recordWith .extra 600 none []).cls = .extra := by decide

/-- The table of 2.6 in two orders and with other ports (O31). -/
theorem witness_PlanIgnoresPortsAndOrder :
    (table14.map (·.number)).Nodup ∧
    (table14.map Claims.planned).Perm ((table14.reverse.map fun r => { r with mastPort := 31 }).map Claims.planned) := by
  refine ⟨by decide +kernel, ?_⟩
  rw [List.map_map, show (Claims.planned ∘ fun r : Record => { r with mastPort := 31 }) = Claims.planned from rfl,
    List.map_reverse]
  exact (List.reverse_perm _).symm

/-- Selectors 1 and 2, numbers at the ends of their ranges; no record, a run in progress, and a record with and without the
circuit (O32). -/
theorem witness_ReadPlanAnswers :
    (Runs State.reset ∧ 2 ≤ (2 : Byte).toNat ∧ 64 ≤ (64 : Byte).toNat ∧ (63 : Byte).toNat < 64 ∧ (1 : Byte).toNat < 2 ∧
      State.reset.planner.current = none ∧ State.reset.planner.next = none ∧ State.reset.planner.run = none) ∧
    (planInForce planned12).isSome = true ∧ planned12.planner.current = some (computePlan ⟨12, 40⟩ openView [c0, c1, c5 4 4]) ∧
    (computePlan ⟨12, 40⟩ openView [c0, c1, c5 4 4]).entry 63 = none ∧
    ((computePlan ⟨12, 40⟩ openView [c0, c1, c5 4 4]).entry 5).isSome = true ∧
    (1 : Byte) = BitVec.ofNat 8 (directionCode .up) ∧ (0 : Byte) = BitVec.ofNat 8 (directionCode .down) := by
  decide +kernel

/-- Fields at and past the ends of their ranges; an OFF lane and another, enabled and disabled (O33). -/
theorem witness_LaneSetupTable :
    (Runs (mastAt 0) ∧ 4 ≤ (4 : Byte).toNat ∧ 3 ≤ (3 : Byte).toNat ∧ 2 ≤ (2 : Byte).toNat) ∧
    (3 : Byte).toNat = (3 : Fin 4).val ∧ (2 : Byte).toNat = kindCode .copper ∧ (State.reset.lanes.get 3).state = .off ∧
    ((mastAt 0).lanes.get 3).state ≠ .off := by decide +kernel

/-- Both supply states; a side that is not bound, one bound in a plan in force, and one bound to a circuit that the plan does
not hold (O34). -/
theorem witness_BoardLevelsFollowed :
    Runs planned12 ∧ planned12.prot.supply = .normal ∧
    ({ planned12 with prot := { planned12.prot with supply := .deadBand } } : State).prot.supply = .deadBand ∧
    boundSlot planned12 .transmit 31 = none ∧ boundSlot planned12 .transmit 4 = some (newSlot (c5 4 4)) ∧
    ((planInForce planned12).bind fun p => (p.direction .up).entry 5).isSome = true ∧
    (boundSlot unplaced .transmit 4 = some (newSlot c6) ∧
      planInForce unplaced = some (computePlan ⟨12, 40⟩ openView [c0, c1, c5 4 4]) ∧
      (computePlan ⟨12, 40⟩ openView [c0, c1, c5 4 4]).up.entry 6 = none) := by decide +kernel

/-- An evaluated lane and an OFF one; no take due, a second valid header, a fourth missing one, and a clean superframe that
completes the hold of 800 (O35). -/
theorem witness_LaneEvaluationsComplete :
    let s := adoptingWith (laneIn .aligning 4095 1 0)
    let t := adoptingWith { laneIn .admitting 129 2 0 with holdCount := 799 }
    (s.orders.pending = none ∧ s.orders.heard = none ∧ judgeTakeMast (judgeTakeTruck s) = s ∧
      judgeTakeMast (judgeTakeTruck t) = t ∧ (s.lanes.get 0).state ≠ .off ∧ (s.lanes.get 1).state = .off) ∧
    (Runs s ∧ s.handed.get 0 = none ∧ (s.lanes.get 0).state = .aligning ∧ 1 ≤ (s.lanes.get 0).validRun ∧
      acceptsHeader s 0 (arrives frame100) 100 ⟨0, 0⟩) ∧
    (3 ≤ ((adoptingWith (laneIn .inService 0 0 3)).lanes.get 0).missRun ∧
      headerMissing (adoptingWith (laneIn .inService 0 0 3)) 0 silent) ∧
    ((t.lanes.get 0).state = .admitting ∧ (t.lanes.get 0).score ≤ 129 ∧ cleanArrival t 0 (arrives frame100) ∧
      t.params.readmitHold ≤ (t.lanes.get 0).holdCount + 1) := by
  refine ⟨⟨rfl, rfl, rfl, rfl, by decide +kernel, by decide +kernel⟩,
    ⟨by decide +kernel, by decide +kernel, by decide +kernel, by decide +kernel, ⟨0, frame100⟩, by decide +kernel⟩,
    ⟨by decide +kernel, fun a h => by cases h⟩, by decide +kernel, by decide +kernel, ?_, by decide +kernel⟩
  unfold cleanArrival; decide +kernel

/-- A lane with a score of 0, of 4,095 and OFF; a header that is valid and none; QUARANTINED; DARK; no view (O36). -/
theorem witness_ScoreFollowsTheSuperframe :
    let s := adoptingWith (laneIn .inService 0 0 0)
    (s.lanes.get 0).state ≠ .off ∧ (s.lanes.get 1).state = .off ∧ (judgeLane s 0 (arrives frame100)).damaged = 0 ∧
    (judgeLane s 0 (arrives frame100)).header = some (100, ⟨0, 0⟩) ∧ (judgeLane s 0 silent).header = none ∧
    (s.lanes.get 0).score = 0 ∧ 0 < (laneIn .inService 4095 0 0).score ∧ (laneIn .inService 4095 0 0).score ≤ 4095 ∧
    ((tripped none).lanes.get 3).state = .quarantined ∧ (laneIn .dark 0 0 0).state = .dark ∧ s.orders.view = none ∧
    (⟨0, 0⟩ : Stamp) ≠ (mastAt 0).orders.stamp := by decide +kernel

/-- Lane numbers 3 and 4 (O37). -/
theorem witness_ReadLaneAnswers :
    Runs (mastAt 0) ∧ 4 ≤ (4 : Byte).toNat ∧ (3 : Byte).toNat = (3 : Fin 4).val := by decide +kernel

/-- A LIVE and a FREE number, the ends of the number ranges (O38). -/
theorem witness_CountersReadAndCleared :
    Runs counted ∧ (slotAt counted.table.slots 0).isSome = true ∧ slotAt counted.table.slots 63 = none ∧
    (63 : Byte) = BitVec.ofNat 8 (63 : Fin 64).val ∧ 64 ≤ (64 : Byte).toNat ∧
    (3 : Byte) = BitVec.ofNat 8 (3 : Fin 4).val ∧ 4 ≤ (4 : Byte).toNat := by decide +kernel

/-- A truck end and a mast end that run, a boundary at which a framer sends, a plan in force by which one sends, no plan, and
BLANK (O39). -/
theorem witness_BoundarySendsAndCounts :
    let s := { callingIn .window 1 300 with lanes := State.reset.lanes.set 0 (laneIn .inService 0 0 0) }
    Runs s ∧ s.role = .truck ∧ Runs (mastAt 0) ∧ (mastAt 0).role = .mast ∧ s.handed.get 0 = none ∧
    ((did (.superframeBoundary (PerLane.all silent)) s).sent.get 0).isSome = true ∧
    (planInForce planned12 = some (computePlan ⟨12, 40⟩ openView [c0, c1, c5 4 4]) ∧
      planned12.orders.view = some openView ∧ inBlank planned12 = false ∧ TableInOrder planned12 ∧
      ([c0, c1, c5 4 4].map (·.number)).Nodup ∧ (∀ r ∈ [c0, c1, c5 4 4], r.preference.Nodup) ∧
      ((sendSuperframe planned12).sent.get 0).isSome = true) ∧
    (planInForce s = none ∧ inBlank (mastAt 0) = true) := by decide +kernel

/-- A superframe of one block with a cell of 60 bytes (O40). -/
theorem witness_SuperframesRoundTrip :
    let f : SentFrame := ⟨1, 7, ⟨12, 40⟩, List.replicate 60 9,
      .data (List.replicate 60 7) :: List.replicate 15 .fill⟩
    f.control.length = 60 ∧ f.slots.length % 16 = 0 ∧ f.slots.length ≤ 16 ∧
    ∀ c : Cell, .data c ∈ f.slots → c.length = 60 := by
  refine ⟨by decide, by decide, by decide, fun c h => ?_⟩
  simp at h; simp [h]

/-- A strike input in its refractory and one outside it (O41). -/
theorem witness_StrikeEffects :
    Runs surges ∧ (surges.prot.inputs.get 0).refractory = false ∧ (counted.prot.inputs.get 0).refractory = true ∧
    Runs counted := by decide +kernel

/-- Timers that have expired in a consistent storm at the lowest level, and timers that are stopped (O42). -/
theorem witness_ProtectionTimersExpire :
    Runs (stormAt 1) ∧ (stormAt 1).prot.stormDecay = some 0 ∧ StormConsistent (stormAt 1) ∧
    surges.prot.stormDecay ≠ some 0 ∧ ((tripped (some 0)).prot.guards.get 3).retry = some 0 := by decide +kernel

/-- A driving driver without and with an overcurrent, its blanking timer running and expired; a lane that is not driving
(O43). -/
theorem witness_DriverFaults :
    let s := withGuard ⟨Causes.none, none, none, some 0, true, 0⟩ surges
    (Runs surges ∧ (surges.lanes.get 3).kind = .copper ∧ (surges.lanes.get 3).sending = true ∧
      (surges.prot.guards.get 3).causes.driver = false ∧ (surges.prot.guards.get 3).overcurrent = false) ∧
    (s.prot.guards.get 3).overcurrent = true ∧ (s.prot.guards.get 3).blanking = some 0 ∧
    (s.prot.guards.get 3).blanking ≠ none ∧ (surges.lanes.get 0).kind ≠ .copper := by decide +kernel

/-- Lanes 3 and 4, with DRIVER held and not held (O44). -/
theorem witness_ThermalAndReleaseLane :
    Runs (tripped none) ∧ 4 ≤ (4 : Byte).toNat ∧ (3 : Byte) = BitVec.ofNat 8 (3 : Fin 4).val ∧
    ((tripped none).prot.guards.get 3).causes.driver = true ∧
    ((tripped none).prot.guards.get 2).causes.driver = false := by decide +kernel

/-- A part that runs, its posture ON (O45). -/
theorem witness_ProtectionSetupWrites : Runs (stormAt 8) ∧ (stormAt 8).prot.stormOn = true := by decide +kernel

/-- STANDBY and another link state (O46). -/
theorem witness_LinkStartsAndStops :
    Runs State.reset ∧ State.reset.link.state = .standby ∧ Runs planned12 ∧ planned12.link.state ≠ .standby := by
  decide +kernel

/-- Every phase with its timer expired, attempts 2 and 3, recall intervals 0 and 5, and a timer with a boundary left
(O47). -/
theorem witness_CallScheduleMoves :
    (Runs (callingIn .window 2 0) ∧ (callingIn .window 2 0).link.state = .calling ∧
      (callingIn .window 2 0).link.timer = some 0 ∧ (callingIn .window 2 0).link.attempt < 3 ∧
      3 ≤ (callingIn .window 3 0).link.attempt ∧ State.reset.params.recallInterval ≠ 0 ∧
      ({ Params.default with recallInterval := 0 } : Params).recallInterval = 0) ∧
    (callingIn .gap 2 0).link.phase = some .gap ∧ (callingIn .recallWait 3 0).link.phase = some .recallWait ∧
    (callingIn .window 1 1).link.timer ≠ some 0 ∧ State.reset.link.state ≠ .calling := by decide +kernel

/-- A cycle end that is due and one that is not; an expiry that is due and one that is not (O48). -/
theorem witness_CycleEndsJudged :
    Runs State.reset ∧ State.reset.chan.cycleDue = true ∧ State.reset.link.expiryDue = false ∧
    ({ Channel.cleared with cycleDue := false } : Channel).cycleDue = false ∧
    (⟨.holdover, none, 0, none, some .carrying, 4000, 4000, true⟩ : Link).expiryDue = true := by decide

/-- R153: the items that a commit of two edits carries for a held count of 0, 1 and 2, for another stage and without a reply,
and that of an empty full sync (O48). -/
theorem test_item_chosen :
    (itemChosen (some (reply 0 12 ⟨12, 40⟩ (some 13) 0)) 13 .change 2, itemChosen (some (reply 0 12 ⟨12, 40⟩ (some 13) 1)) 13 .change 2,
      itemChosen (some (reply 0 12 ⟨12, 40⟩ (some 13) 2)) 13 .change 2, itemChosen (some (reply 0 12 ⟨12, 40⟩ (some 14) 1)) 13 .change 2,
      itemChosen none 13 .change 2, itemChosen (some (reply 0 12 ⟨12, 40⟩ none 0)) 13 .full 0) = (0, 1, 1, 0, 0, 0) := by decide

/-- R17: an item is malformed just past each end of its row's ranges, and not at them (O49). -/
theorem test_malformed_rows :
    let add := some (Edit.add c0)
    [⟨13, .change, 0, 1, add⟩, ⟨13, .change, 15, 16, some (.retire 1)⟩, ⟨13, .full, 63, 64, add⟩, ⟨13, .full, 0, 0, none⟩].all
        (fun i : TransferItem => !malformed i && !itemMalformed i) = true ∧
    [⟨13, .change, 0, 0, none⟩, ⟨13, .change, 0, 17, add⟩, ⟨13, .full, 0, 65, add⟩, ⟨13, .change, 2, 2, add⟩, ⟨13, .full, 1, 0, none⟩,
      ⟨13, .full, 0, 0, add⟩, ⟨13, .change, 0, 1, none⟩, ⟨13, .full, 0, 1, some (.retire 1)⟩].all
        (fun i : TransferItem => malformed i && itemMalformed i) = true := by decide

/-- A message that passes and one that does not; no order; a new order one superframe ahead, 2^31 - 1 ahead, reached and
passed, with each planning source (O49). -/
theorem witness_SteeringMessagesHeard :
    (Runs (mastAt 20025) ∧ steeringPasses (steering 2503 none none) (mastAt 20025) ∧
      ¬ steeringPasses (steering 2502 none none) (mastAt 20025)) ∧
    ((mastAt 20025).orders.heard = none ∧ (steering 2503 none none).order = none) ∧
    ((steering 2503 (some commitOrder) none).order = some commitOrder ∧
      commitOrder.stamp ≠ (mastAt 20025).orders.stamp ∧
      ((mastAt 20025).orders.heard.map fun h => h.order.stamp) ≠ some commitOrder.stamp) ∧
    (1 ≤ ((20026 : Count) - (mastAt 20025).count).toNat ∧
      ((20025 + 2147483647 : Count) - (mastAt 20025).count).toNat < 2 ^ 31) ∧
    ((20025 : Count) = (mastAt 20025).count ∧ 2 ^ 31 ≤ ((20024 : Count) - (mastAt 20025).count).toNat) ∧
    (heardSource commitOrder 12 ⟨some 13, .change, 2, committed⟩ = some .changeStage ∧
      heardSource commitOrder 12 ⟨some 13, .full, 2, committed⟩ = some .fullStage ∧
      heardSource commitOrder 13 StageArea.empty = some .committed ∧ heardSource commitOrder 12 StageArea.empty = none) := by
  unfold steeringPasses; decide +kernel

/-- A reply that passes and one that does not, in SYNCING without a decision, with a full sync, with a commit, and in
CARRYING with equal and with other stamps at a mismatch count of 0 and of 1 (O50). -/
theorem witness_MastRepliesRead :
    (Runs (carryingAt 20017 [] (reply 0 12 ⟨12, 40⟩ none 0)) ∧
      replyPasses (reply 2501 12 ⟨12, 40⟩ none 0) (carryingAt 20017 [] (reply 0 12 ⟨12, 40⟩ none 0)) ∧
      ¬ replyPasses (reply 2502 12 ⟨12, 40⟩ none 0) (carryingAt 20017 [] (reply 0 12 ⟨12, 40⟩ none 0))) ∧
    ((linkHearing ⟨.calling, some .window, 1, some 5, none, 0, 0, false⟩).state = .syncing ∧
      Orders.cleared.decision = none ∧ Orders.cleared.pending = none ∧ Orders.cleared.fullSync = none ∧
      ordered (callingIn .window 1 5) = false) ∧
    ((committing 20017 (.armed none) 5).orders.commit = some (commitJob (.armed none) 5) ∧
      (did (.mastReply (reply 2501 12 ⟨12, 40⟩ (some 13) 2)) (committing 20017 (.armed none) 5)).orders.commit ≠ none) ∧
    ((reply 0 12 ⟨12, 40⟩ none 0).stamp = planned12.orders.stamp ∧ (reply 0 12 ⟨12, 39⟩ none 0).stamp ≠ planned12.orders.stamp ∧
      planned12.orders.mismatchCount = 0 ∧ (reply 0 13 ⟨12, 40⟩ none 0).generation ≠ planned12.table.generation) := by
  unfold replyPasses; decide +kernel

/-- A mast end whose lane 1 holds the first half of a message from a count and is handed its second half one later. -/
def halved (msg : List Byte) (count : Count) : State :=
  { mastAt 20025 with
    handed := ⟨none, some ⟨some (count + 1, secondHalf msg), [], false, ⟨12, 40⟩⟩, none, none⟩
    chan := { Channel.cleared with waiting := ⟨none, some ⟨count, firstHalf msg⟩, none, none⟩ } }

/-- The message bytes of a steering message of cycle 2,503. -/
def msg2503 : List Byte := steeringBytes (steering 2503 none none)

/-- Its halves make a checked copy. -/
theorem copy2503 : checkedMessage (firstHalf msg2503) (secondHalf msg2503) = some msg2503 := by
  have h : (secondUnchecked msg2503).length = 58 := by decide +kernel
  have hs : secondHalf msg2503 = secondUnchecked msg2503 ++ crc16Bytes (firstHalf msg2503 ++ secondUnchecked msg2503) := rfl
  have hc : ∀ bs : List Byte, (crc16Bytes bs).length = 2 := fun _ => rfl
  have hd : slice (firstHalf msg2503) 1 59 ++ slice (secondUnchecked msg2503) 1 57 = msg2503 := by decide +kernel
  have h1 : slice (secondHalf msg2503) 1 57 = slice (secondUnchecked msg2503) 1 57 := by
    rw [hs, slice, slice, List.drop_append_of_le_length (by omega), List.take_append_of_le_length (by simp [h])]
  have h2 : slice (secondHalf msg2503) 58 2 = crc16Bytes (firstHalf msg2503 ++ secondUnchecked msg2503) := by
    rw [hs, slice, List.drop_left' h, List.take_of_length_le (by rw [hc])]
  rw [checkedMessage, h2, h1, hd, if_pos]
  rw [hs, List.take_left' h]

/-- Messages that can be laid out, and 116 bytes; a lane that completes a copy with none below it, and no lane that does
(O51). -/
theorem witness_ControlMessagesRoundTrip :
    (steering 500 (some commitOrder) (some ⟨13, .change, 1, 2, some (.modify (c5 6 6))⟩)).wellFormed = true ∧
    (reply 2501 12 ⟨12, 40⟩ (some 13) 2).wellFormed = true ∧ (List.replicate 116 (0 : Byte)).length = 116 ∧
    (Runs (halved msg2503 20024) ∧ completes (halved msg2503 20024) 1 msg2503 20024 ∧
      (20024 : Count) = (halved msg2503 20024).count - 1 ∧
      ∀ (k : Fin 4) (other : List Byte) (n : Count), k < 1 → ¬ completes (halved msg2503 20024) k other n) ∧
    (steeringOf msg2503).isSome = true ∧ (∀ (l : Fin 4) (m : List Byte) (n : Count), ¬ completes State.reset l m n) := by
  refine ⟨by decide +kernel, by decide +kernel, by decide, ⟨by decide +kernel, ⟨⟨20024, firstHalf msg2503⟩, 20025,
    secondHalf msg2503, rfl, rfl, rfl, by decide, rfl, copy2503⟩, by decide +kernel, fun k other n h => ?_⟩, by decide +kernel, fun l m n => ?_⟩
  · rintro ⟨w, c, b, hw, -⟩
    obtain rfl : k = 0 := by omega
    cases hw
  · rintro ⟨w, c, b, hw, -⟩
    revert hw
    match l with
    | 0 | 1 | 2 | 3 => exact fun h => by cases h

/-- A port without and with a binding; a queue below and at its limit; a pool below its size; no plan in force (O52). -/
theorem witness_CellArrivalTests :
    let s := { planned12 with service := { Service.cleared with limits := planned12.planner.current } }
    Runs s ∧ TableInOrder s ∧ (List.replicate 60 (0 : Byte)).length = 60 ∧
    (∀ x ∈ s.table.slots, ¬ (x.record.direction = .up ∧ x.record.truckPort = 31)) ∧
    (s.table.slots = [newSlot c0, newSlot c1] ++ newSlot (c5 4 4) :: [] ∧ (c5 4 4).truckPort = 4 ∧
      ∀ y ∈ [newSlot c0, newSlot c1], ¬ (y.record.direction = .up ∧ y.record.truckPort = 4)) ∧
    planInForce s ≠ none ∧ queueLimit s.service.limits 5 = 6 ∧ planInForce (staging []) = none ∧
    ¬ 16384 ≤ (s.table.slots.map fun y => y.queue.length).sum := by decide +kernel

/-- An entry of a LIVE circuit, a position all of whose copies are bad, a plan in force outside BLANK, and BLANK (O53). -/
theorem witness_PositionsDelivered :
    TableInOrder planned12 ∧ planned12.table.slots = [newSlot c0, newSlot c1] ++ newSlot (c5 4 4) :: [] ∧
    ((planInForce planned12).bind fun p => (p.up.entry 5).map (·.number)) = some 5 ∧
    judgePosition none none = .lost ∧ Runs planned12 ∧ inBlank planned12 = false ∧
    (∀ p : Plan, planInForce planned12 = some p → (p.down.entries.map (·.number)).Nodup) ∧
    TableInOrder (mastAt 0) ∧ inBlank (mastAt 0) = true := by
  refine ⟨by decide +kernel, by decide +kernel, by decide +kernel, by decide +kernel, by decide +kernel, by decide +kernel,
    fun p h => ?_, by decide +kernel, by decide +kernel⟩
  obtain rfl : p = computePlan ⟨12, 40⟩ openView [c0, c1, c5 4 4] := by
    rw [show planInForce planned12 = some (computePlan ⟨12, 40⟩ openView [c0, c1, c5 4 4]) from by decide +kernel] at h
    exact (Option.some.inj h).symm
  decide +kernel

/-- The end of a condition that is not held, of one of two, and of the last (O54). -/
theorem witness_HardResetsAndTheirEnd :
    let s := { State.reset with resetting := ⟨true, true, false⟩ }
    (inReset s = true ∧ Instr.stormDecayExpiry ≠ .powerOnReset) ∧
    ({ s.resetting with supply := false } : Resetting) = s.resetting ∧
    ({ s.resetting with pin := false } : Resetting) ≠ s.resetting ∧
    ({ s.resetting with pin := false } : Resetting) ≠ ⟨false, false, false⟩ ∧
    ({ (⟨true, false, false⟩ : Resetting) with powerOn := false } : Resetting) = ⟨false, false, false⟩ := by decide

/-- A part that runs with a table, a lane enabled and one OFF (O55). -/
theorem witness_SoftResetKeepsConfiguration : Runs planned12 ∧ Runs (adoptingWith (laneIn .dark 0 0 0)) := by
  decide +kernel

/-- A storm whose decay is taken: the promises hold and the step answers a next state (O56). -/
theorem witness_LaneAndProtectionPromisesKept :
    let s := (stormAt 1).withPending [.stormDecayExpiry]
    (ScoresInRange s ∧ QuarantineFollowsCauses s ∧ CausesHaveTheirReasons s ∧ StormConsistent s ∧ GuardsInRange s) ∧
    step s = .next (did .stormDecayExpiry (stormAt 1)) := ⟨by decide +kernel, rfl⟩

/-- A truck end with a change set that stages one more edit (O57). -/
theorem witness_TablePromisesKept :
    let s := (staging committed).withPending [.stageRetire [1]]
    (ResetHeld s ∧ RoleStateApart s ∧ TableInOrder s ∧ ChangeSetBounded s ∧ EditsFitTable s ∧ PortsApart s ∧
      StageWellFormed s) ∧
    step s = .next (did (.stageRetire [1]) (staging committed)) := ⟨by decide +kernel, rfl⟩

/-- A truck end with a plan in force that takes a cell (O58). -/
theorem witness_QueuePromisesKept :
    let t := { planned12 with service := { Service.cleared with limits := planned12.planner.current } }
    let s := t.withPending [.cellArrival 4 (List.replicate 60 0)]
    (ResetHeld s ∧ TableInOrder s ∧ QueuesBounded s ∧ QueuesAtSender s) ∧
    step s = .next (did (.cellArrival 4 (List.replicate 60 0)) t) := ⟨by decide +kernel, rfl⟩

/-- A truck end in CARRYING whose pending order lies one superframe ahead and is judged at a boundary's order issue
(O59). -/
theorem witness_LinkAndEpochPromisesKept :
    let t := { planned12 with orders := { planned12.orders with pending := some ⟨6, ⟨12, 41⟩, openView, .plain⟩ } }
    let s := t.withPending [.orderIssue]
    (ResetHeld s ∧ RoleStateApart s ∧ ParamsInRange s ∧ LinkHoldsNothing s ∧ ScheduleFollowsLink s ∧ MissesBounded s ∧
      EpochNotPassed s) ∧
    step s = .next (did .orderIssue t) := by
  refine ⟨⟨by decide +kernel, by decide +kernel, by decide +kernel, by decide +kernel, by decide +kernel,
    by decide +kernel, fun o h => ?_⟩, rfl⟩
  cases h; decide +kernel

end Sys2Proof.Tests
end

section
/-! The family of the circuit table. First what the tests and the merge of a staging request say of the edit held for its
number, and what the abandoning of a commit does in each state of the procedure; then the statements (R10, R11, R13). -/

namespace Sys2Proof.CircuitTable

open Sys2Proof Sys2Proof.Machine Sys2Proof.Claims

/-! ### The edit held for a number -/

section
variable {es : List Edit} {i : Nat} {held : Edit}

/-- In a list of edits of different numbers, the position of an edit is the only one with its number. -/
theorem editNumber_getElem_eq_iff (hn : (es.map editNumber).Nodup) (hi : es[i]? = some held) {k : Nat}
    (hk : k < es.length) : editNumber es[k] = editNumber held ↔ k = i := by
  obtain ⟨hlt, rfl⟩ := List.getElem?_eq_some_iff.1 hi
  rw [← hn.getElem_inj_iff (hi := by simpa using hk) (hj := by simpa using hlt), List.getElem_map, List.getElem_map]

/-- The edit listed with a number is the one held for it (R8). -/
theorem heldEdit_of_getElem? (hn : (es.map editNumber).Nodup) (hi : es[i]? = some held) :
    heldEdit es (editNumber held) = some held := by
  obtain ⟨hlt, rfl⟩ := List.getElem?_eq_some_iff.1 hi
  refine List.find?_eq_some_iff_getElem.2 ⟨by simp, i, hlt, rfl, fun k hk => ?_⟩
  simp [editNumber_getElem_eq_iff hn hi, hk.ne]

/-- An edit that replaces the one of its number takes that one's position (R11). -/
theorem replaceEdit_eq_set (hn : (es.map editNumber).Nodup) (hi : es[i]? = some held) (new : Edit) :
    replaceEdit es (editNumber held) new = es.set i new := by
  refine List.ext_getElem (by simp [replaceEdit]) fun k hk _ => ?_
  have hk : k < es.length := by simpa [replaceEdit] using hk
  simp [replaceEdit, List.getElem_set, editNumber_getElem_eq_iff hn hi hk, eq_comm (a := i)]

/-- The removal of a number's edit closes the list up at its position (R8, R11). -/
theorem removeEdit_eq_eraseIdx (hn : (es.map editNumber).Nodup) (hi : es[i]? = some held) :
    removeEdit es (editNumber held) = es.eraseIdx i := by
  induction es generalizing i with
  | nil => simp at hi
  | cons e es ih =>
    obtain ⟨hne, hn'⟩ := List.nodup_cons.1 hn
    cases i with
    | zero =>
      obtain rfl : e = held := by simpa using hi
      have hrest : ∀ x ∈ es, editNumber x ≠ editNumber e := fun x hx h => hne (h ▸ List.mem_map_of_mem hx)
      simpa [removeEdit] using hrest
    | succ i =>
      have hi : es[i]? = some held := by simpa using hi
      have he : editNumber e ≠ editNumber held := fun h => hne (h ▸ List.mem_map_of_mem (List.mem_of_getElem? hi))
      calc removeEdit (e :: es) (editNumber held)
          = e :: removeEdit es (editNumber held) := List.filter_cons_of_pos (decide_eq_true he)
        _ = (e :: es).eraseIdx (i + 1) := by rw [ih hn' hi, List.eraseIdx_cons_succ]

end

/-! ### The tests and the merge of a staging request -/

/-- The frozen state of the model is the one that the statements spell out (R94). -/
theorem frozen_eq_eitherDeadBand (s : State) : frozen s = eitherDeadBand s := by
  unfold frozen farDeadBand eitherDeadBand
  cases s.chan.fromMast <;> rfl

/-- Test 6 of R10 is the search for another record with a binding of the edit's (R12). -/
theorem bindingTaken_eq_bindsTaken (rs : List Record) (es : List Edit) (e : Edit) :
    bindingTaken rs es e = bindsTaken (projected rs (mergeEdit es e)) e := by
  cases e <;> simp [bindingTaken, bindsTaken, editRecord, conflicts, Bool.and_assoc, eq_comm]

/-- A number with no edit held is LIVE in the projected table where it is LIVE in the committed one (R9). -/
theorem projectedLive_of_unheld {rs : List Record} {es : List Edit} {n : Fin 64} (h : heldEdit es n = none) :
    projectedLive rs es n = liveIn rs n := by
  rw [Bool.eq_iff_iff]
  simp [projectedLive, h, recordAt, liveIn]

section
variable {rs : List Record} {es : List Edit} {e : Edit}

/-- With no edit held, an ADD of a LIVE number is refused with EXISTS (R10). -/
theorem stageEdit_exists (hh : heldEdit es (editNumber e) = none) (hl : liveIn rs (editNumber e) = true)
    (ha : isAdd e = true) : stageEdit rs es e = .error .exists_ := by
  cases e with
  | add r => simp [stageEdit, existenceRefusal, projectedLive_of_unheld hh, hl]
  | modify r => simp [isAdd] at ha
  | retire n => simp [isAdd] at ha

/-- With no edit held, a MODIFY or RETIRE of a FREE number is refused with NO_RECORD (R10). -/
theorem stageEdit_noRecord (hh : heldEdit es (editNumber e) = none) (hl : liveIn rs (editNumber e) = false)
    (ha : isAdd e = false) : stageEdit rs es e = .error .noRecord := by
  cases e with
  | add r => simp [isAdd] at ha
  | modify r => simp [stageEdit, existenceRefusal, projectedLive_of_unheld hh, hl]
  | retire n => simp [stageEdit, existenceRefusal, projectedLive_of_unheld hh, hl]

/-- With no edit held, test 5 passes an ADD of a FREE number and a MODIFY or RETIRE of a LIVE one (R10). -/
theorem existenceRefusal_of_unheld (hh : heldEdit es (editNumber e) = none)
    (hl : liveIn rs (editNumber e) = !isAdd e) : existenceRefusal rs es e = none := by
  cases e <;> simpa [existenceRefusal, projectedLive_of_unheld hh, isAdd] using hl

/-- An edit of a number that has none joins at the end while there is room, and is refused with SET_FULL otherwise
(R10, R11). -/
theorem stageEdit_of_unheld (hh : heldEdit es (editNumber e) = none) (hl : liveIn rs (editNumber e) = !isAdd e)
    (hb : bindsTaken (projected rs (mergeEdit es e)) e = false) :
    stageEdit rs es e = if 16 ≤ es.length then .error .setFull else .ok (es ++ [e]) := by
  have hm : mergeEdit es e = es ++ [e] := by simp [mergeEdit, hh]
  have hb : bindingTaken rs es e = false := by rw [bindingTaken_eq_bindsTaken, hb]
  simp [stageEdit, existenceRefusal_of_unheld hh hl, hb, hh, hm, Config.changeSetSize]

/-- With an edit held, test 5 refuses exactly the rows of R11 that are refusals. -/
theorem existenceRefusal_of_held {held : Edit} (hh : heldEdit es (editNumber e) = some held) :
    existenceRefusal rs es e = match mergeRow held e with
      | .error refusal => some refusal
      | .ok _ => none := by
  cases held with
  | add r | modify r =>
    have hl : projectedLive rs es (editNumber e) = true := by simp [projectedLive, hh]
    cases e <;> simp [existenceRefusal, hl, mergeRow]
  | retire n =>
    have hl : projectedLive rs es (editNumber e) = false := by simp [projectedLive, hh]
    cases e <;> simp [existenceRefusal, hl, mergeRow]

/-- With an edit held, the merge leaves in its position what its row of R11 gives: of the nine pairs of kinds, the four
refused rows give nothing, one row removes the edit and the others replace it. -/
theorem mergeEdit_of_held {i : Nat} {held : Edit} {new : Option Edit} (hn : (es.map editNumber).Nodup)
    (hi : es[i]? = some held) (he : editNumber held = editNumber e) (hr : mergeRow held e = .ok new) :
    mergeEdit es e = placeAt es i new := by
  have hh := heldEdit_of_getElem? hn hi
  have hset := replaceEdit_eq_set hn hi
  have herase := removeEdit_eq_eraseIdx hn hi
  rw [he] at hh hset herase
  cases held <;> cases e <;> cases hr <;> simp [mergeEdit, hh, hset, herase, placeAt]

/-- With an edit held for its number, a request is answered by its row of R11. -/
theorem stageEdit_of_held {i : Nat} {held : Edit} (hn : (es.map editNumber).Nodup) (hi : es[i]? = some held)
    (he : editNumber held = editNumber e) (hb : bindsTaken (projected rs (mergeEdit es e)) e = false) :
    stageEdit rs es e = (mergeRow held e).map (placeAt es i) := by
  have hh : heldEdit es (editNumber e) = some held := he ▸ heldEdit_of_getElem? hn hi
  have hb : bindingTaken rs es e = false := by rw [bindingTaken_eq_bindsTaken, hb]
  cases hr : mergeRow held e with
  | error refusal => simp [stageEdit, existenceRefusal_of_held hh, hr, Except.map]
  | ok new =>
    simp [stageEdit, existenceRefusal_of_held hh, hr, Except.map, hb, hh, mergeEdit_of_held hn hi he hr]

end

/-! ### What a staging request leaves -/

/-- A running part executes a staging request by the tests of R10 on the edit that its body gives. -/
theorem exec_stagingRequest {c : Instr} {code : Byte} {edit : Option Edit} {s : State} (hc : StagingRequest c code edit)
    (hs : Runs s) : exec c s = .next (stage code edit s) := by
  cases hc with
  | add body h => exact request_of_length hs h _
  | modify body h => exact request_of_length hs h _
  | retire n =>
    have hn : circuitOf (byteAt [BitVec.ofNat 8 n.val] 0).toNat = some n := by
      rw [← circuitOf_val n]
      congr 1
      exact Nat.mod_eq_of_lt (by omega)
    calc exec (.stageRetire [BitVec.ofNat 8 n.val]) s
        = .next (stage 0x13 ((circuitOf (byteAt [BitVec.ofNat 8 n.val] 0).toNat).map .retire) s) :=
          request_of_length hs rfl _
      _ = .next (stage 0x13 (some (.retire n)) s) := by rw [hn]; rfl
  | retireNone b h =>
    have hn : circuitOf (byteAt [b] 0).toNat = none := dif_neg (not_lt.2 h)
    calc exec (.stageRetire [b]) s
        = .next (stage 0x13 ((circuitOf (byteAt [b] 0).toNat).map .retire) s) := request_of_length hs rfl _
      _ = .next (stage 0x13 none s) := by rw [hn]; rfl

/-- The state `t` answers a request that came in the state `s` with this outcome of the tests and the merge: a refusal with
the change set as it was, or OK with the new change set. -/
def AnswersStaging (s t : State) : Except AnswerCode (List Edit) → Prop
  | .error refusal => t.host.held.map Answer.code = some refusal ∧ t.changes = s.changes
  | .ok es => t.host.held.map Answer.code = some .ok ∧ t.changes = es

/-- Past the tests of role, commit and supply, the answer is the outcome of tests 5 to 7 and the merge (R10). -/
theorem stage_answersStaging (code : Byte) (e : Edit) {s : State} (hr : s.role = .truck) (hc : s.orders.commit = none)
    (hd : eitherDeadBand s = false) :
    AnswersStaging s (stage code (some e) s) (stageEdit (recordsOf s.table.slots) s.changes e) := by
  have hf : frozen s = false := by rw [frozen_eq_eitherDeadBand, hd]
  cases h : stageEdit (recordsOf s.table.slots) s.changes e <;>
    simp [stage, hr, hc, hf, h, AnswersStaging]

/-- Only an OK answer changes the change set. -/
theorem AnswersStaging.changes_eq {s t : State} {outcome : Except AnswerCode (List Edit)}
    (h : AnswersStaging s t outcome) (hne : t.host.held.map Answer.code ≠ some .ok) : t.changes = s.changes := by
  cases outcome with
  | error refusal => exact h.2
  | ok es => exact absurd h.1 hne

/-- Settles O14: the outcome of tests 5 to 7 for a number with no edit held, and by the rows of R11 for one with an
edit. -/
theorem stagedRequestsMerge : Obligations.StagedRequestsMerge := by
  intro c code edit s hc hs hr hcommit hd hn e he hb
  subst he
  have ht := stage_answersStaging code e hr hcommit hd
  refine ⟨stage code (some e) s, exec_stagingRequest hc hs, ht.changes_eq, fun hh => ⟨?_, ?_, ?_, ?_⟩, ?_⟩
  · intro hl ha
    rw [stageEdit_exists hh hl ha] at ht
    exact ht.1
  · intro hl ha
    rw [stageEdit_noRecord hh hl ha] at ht
    exact ht.1
  · intro hl hfull
    rw [stageEdit_of_unheld hh hl hb, if_pos hfull] at ht
    exact ht.1
  · intro hl hroom
    rw [stageEdit_of_unheld hh hl hb, if_neg (not_le.2 hroom)] at ht
    exact ht
  · intro i held hi hnum
    rw [stageEdit_of_held hn hi hnum hb] at ht
    cases hrow : mergeRow held e with
    | error refusal => rw [hrow] at ht; exact ht.1
    | ok new => rw [hrow] at ht; exact ht

/-! ### The commit procedure under DISCARD CHANGES -/

/-- With no commit there is none to abandon (R158). -/
theorem abandonCommit_of_idle {s : State} (h : s.orders.commit = none) : abandonCommit s = s := by
  have ho : { s.orders with commit := none } = s.orders := by rw [← h]
  simp [abandonCommit, commitKept, h, ho]

section
variable {s : State} {j : CommitJob}

/-- A commit that is not ORDERED becomes IDLE, with COMMIT_ABANDONED set (R158). -/
theorem abandonCommit_of_unordered (h : s.orders.commit = some j)
    (hp : ∀ (epoch : Count) (moved : Bool), j.phase ≠ .ordered epoch moved) :
    abandonCommit s = raise .commitAbandoned { s with orders := { s.orders with commit := none } } := by
  have hk : commitKept s.orders.commit = none := by
    cases hphase : j.phase with
    | transferring waiting => simp [commitKept, h, hphase]
    | armed trigger => simp [commitKept, h, hphase]
    | ordered epoch moved => exact absurd hphase (hp epoch moved)
  unfold abandonCommit
  rw [hk, h]
  rfl

/-- The commit procedure is ORDERED exactly where its commit's phase is. -/
theorem commitOrdered_iff (h : s.orders.commit = some j) :
    commitOrdered s = true ↔ ∃ (epoch : Count) (moved : Bool), j.phase = .ordered epoch moved := by
  cases hphase : j.phase <;> simp [commitOrdered, h, hphase]

end

/-- With no commit the procedure is not ORDERED. -/
theorem commitOrdered_of_idle {s : State} (h : s.orders.commit = none) : commitOrdered s = false := by
  unfold commitOrdered
  rw [h]

/-- A running part executes DISCARD CHANGES with its empty body. -/
theorem exec_discardChanges {s : State} (hs : Runs s) : exec (.discardChanges []) s = .next (discardChanges s) :=
  request_of_length hs rfl _

/-- A truck end whose commit procedure is not ORDERED empties the change set and abandons the commit (R13). -/
theorem discardChanges_of_unordered {s : State} (hr : s.role = .truck) (ho : commitOrdered s = false) :
    discardChanges s = respond 0x15 .ok [] (abandonCommit { s with changes := [] }) := by
  simp [discardChanges, hr, ho]

/-- Settles O15, by the role and the phase of the commit. -/
theorem discardChangesByState : Obligations.DiscardChangesByState := by
  intro s hs
  rw [exec_discardChanges hs]
  refine ⟨fun hr => ?_, fun hr hc => ?_, fun j hr hc => ⟨fun epoch moved hp => ?_, fun hp => ?_⟩, rfl⟩
  · simp [discardChanges, hr]
  · rw [discardChanges_of_unordered hr (commitOrdered_of_idle hc), abandonCommit_of_idle (s := { s with changes := [] }) hc]
  · have ho : commitOrdered s = true := (commitOrdered_iff hc).2 ⟨epoch, moved, hp⟩
    simp [discardChanges, hr, ho]
  · have ho : commitOrdered s = false := by
      rw [← Bool.not_eq_true, commitOrdered_iff hc]
      rintro ⟨epoch, moved, h⟩
      exact hp epoch moved h
    rw [discardChanges_of_unordered hr ho, abandonCommit_of_unordered (s := { s with changes := [] }) hc hp]

end Sys2Proof.CircuitTable
end

section
/-! The family of the lanes. First what one evaluation writes to its lane, then that the state's step leaves the score as
the update made it, and what a damaged block presupposes; then the statement (R57, R58, R63, R66). -/

namespace Sys2Proof.LaneScore

open Sys2Proof Sys2Proof.Machine Sys2Proof.Claims

/-! ### What one evaluation writes to its lane -/

section
variable {s : State} {l : Fin 4} (input : LaneInput)

/-- An OFF lane takes no part in the evaluation but for SIGNAL (R51). -/
theorem evaluateLane_get_of_off (h : (s.lanes.get l).state = .off) :
    (evaluateLane l input s).lanes.get l = { s.lanes.get l with signal := input.signal } := by
  simp [evaluateLane, h]

/-- Any other lane is evaluated by the judgement of its superframe (R66). -/
theorem evaluateLane_get_of_ne_off (h : (s.lanes.get l).state ≠ .off) :
    (evaluateLane l input s).lanes.get l =
      (s.lanes.get l).evaluate input.signal (holdTarget s) (judgeLane s l input) := by
  simp [evaluateLane, h, changeLane_lanes]

end

/-! ### The state's step keeps the score

Every branch of the step writes the state, the runs and the hold count alone; so the score is pushed through its branches. -/

section
variable (lane : Lane) (valid clean : Bool)

@[simp] theorem into_score (state : LaneState) : (lane.into state).score = lane.score := rfl

@[simp] theorem alignStep_score : (alignStep lane valid).score = lane.score := by
  simp [alignStep, apply_ite Lane.score]

@[simp] theorem admitStep_score : (admitStep lane clean).score = lane.score := by
  simp [admitStep, apply_ite Lane.score]

@[simp] theorem scoreStep_score : (scoreStep lane clean).score = lane.score := by
  cases h : lane.state with
  | inService | suspect | recovering => simp [scoreStep, h, apply_ite Lane.score]
  | admitting | off | dark | quarantined | aligning => simp [scoreStep, h]

@[simp] theorem alignedStep_score : (alignedStep lane valid clean).score = lane.score := by
  simp [alignedStep, apply_ite Lane.score]

@[simp] theorem stateStep_score : (stateStep lane valid clean).score = lane.score := by
  cases h : lane.state with
  | off | quarantined => simp [stateStep, h]
  | dark | aligning => simp [stateStep, h, apply_ite Lane.score]
  | recovering | admitting | inService | suspect => simp [stateStep, h]

end

/-- The evaluation of a lane that is not OFF leaves the score as its update makes it (R63, R66). -/
theorem evaluateLane_score {s : State} {l : Fin 4} (input : LaneInput) (h : (s.lanes.get l).state ≠ .off) :
    ((evaluateLane l input s).lanes.get l).score =
      scoreAfter (s.lanes.get l).score (judgeLane s l input).damaged (judgeLane s l input).valid := by
  rw [evaluateLane_get_of_ne_off input h]
  exact stateStep_score _ _ _

/-! ### The score's update (R63) -/

/-- The decay is 0 at a score of 0 alone. -/
theorem scoreDecay_eq (score : Nat) : scoreDecay score = if 0 < score then score / 256 + 1 else 0 := by
  rcases Nat.eq_zero_or_pos score with rfl | h
  · rfl
  · rw [scoreDecay, if_neg h.ne', if_pos h]

/-- The update as decay and rise, held at 4,095. -/
theorem scoreAfter_eq (score damaged : Nat) (valid : Bool) :
    let sum := score - (if 0 < score then score / 256 + 1 else 0) + (64 * damaged + if valid then 0 else 256)
    scoreAfter score damaged valid = if 4095 < sum then 4095 else sum := by
  intro sum
  have hsum : scoreAfter score damaged valid = min 4095 sum := by rw [scoreAfter, scoreDecay_eq]; rfl
  rw [hsum, min_def_lt]

/-- A clean superframe lowers every score above 0. -/
theorem scoreAfter_lt_of_clean {score : Nat} (h : 0 < score) : scoreAfter score 0 true < score := by
  have hle : scoreAfter score 0 true ≤ score - scoreDecay score := Nat.min_le_right _ _
  have hdecay : scoreDecay score = score / 256 + 1 := if_neg h.ne'
  omega

/-! ### What is judged (R57, R58) -/

/-- A QUARANTINED and a DARK lane judge nothing. -/
theorem judgeLane_of_quarantined_or_dark {s : State} {l : Fin 4} (input : LaneInput)
    (h : (s.lanes.get l).state = .quarantined ∨ (s.lanes.get l).state = .dark) :
    judgeLane s l input = .nothing :=
  if_pos (.inr h)

/-- A block of an arrival counts as damaged only under a header with the stamp in force, and with a view in force to lay
the payload region out. -/
theorem judgeArrival_of_damaged {s : State} {l : Fin 4} {a : Arrival} (h : (judgeArrival s l a).damaged ≠ 0) :
    s.orders.view ≠ none ∧ ∃ count : Count, (judgeArrival s l a).header = some (count, s.orders.stamp) := by
  cases hh : headerOf l a.bytes with
  | none => simp [judgeArrival, hh, Judgement.nothing] at h
  | some found =>
    obtain ⟨count, stamp⟩ := found
    by_cases hbad : Config.delayCompensation < a.lag ∨ countAccepted s count = false
    · simp [judgeArrival, hh, hbad, Judgement.nothing] at h
    · by_cases hstamp : stamp = s.orders.stamp
      · subst hstamp
        cases hv : s.orders.view with
        | none => simp [judgeArrival, hh, hbad, hv] at h
        | some v => exact ⟨Option.some_ne_none v, count, by simp [judgeArrival, hh, hbad, hv]⟩
      · simp [judgeArrival, hh, hbad, hstamp] at h

/-- The same of a lane in one superframe: what does not arrive or is not judged has no damaged block. -/
theorem judgeLane_of_damaged {s : State} {l : Fin 4} {input : LaneInput} (h : (judgeLane s l input).damaged ≠ 0) :
    s.orders.view ≠ none ∧ ∃ count : Count, (judgeLane s l input).header = some (count, s.orders.stamp) := by
  unfold judgeLane at h ⊢
  split at h
  · exact absurd rfl h
  · next hjudged =>
    rw [if_neg hjudged]
    cases harr : input.arrival with
    | none => rw [harr] at h; exact absurd rfl h
    | some a => rw [harr] at h; exact judgeArrival_of_damaged h

/-- Settles O36: the state's step keeps the score, so it is the update's; and a damaged block presupposes a view and a
header with the stamp in force. -/
theorem scoreFollowsTheSuperframe : Obligations.ScoreFollowsTheSuperframe := by
  intro s l input
  refine ⟨fun hon => ?_, fun hoff => ?_, fun hon hd hv => ?_, fun hon => ?_, fun hq => ?_, fun hview => ?_,
    fun c stamp hc hne => ?_⟩
  · rw [evaluateLane_score input hon]
    exact scoreAfter_eq _ _ _
  · rw [evaluateLane_get_of_off input hoff]
  · rw [evaluateLane_score input hon, hd, show (judgeLane s l input).valid = true from hv]
    exact ⟨fun hzero => by rw [hzero]; rfl, fun hpos _ => scoreAfter_lt_of_clean hpos⟩
  · rw [evaluateLane_score input hon]
    exact scoreAfter_le _ _ _
  · rw [judgeLane_of_quarantined_or_dark input hq]
    exact ⟨rfl, rfl⟩
  · by_contra hd
    exact (judgeLane_of_damaged hd).1 hview
  · by_contra hd
    obtain ⟨-, count, hheader⟩ := judgeLane_of_damaged hd
    obtain ⟨-, hstamp⟩ := Prod.mk.inj (Option.some.inj (hc.symm.trans hheader))
    exact hne hstamp

end Sys2Proof.LaneScore
end

section
/-! The family of orders, epochs and commits. What COMMIT answers for each outcome of its tests, and the outcome that each
test gives where the ones before it pass; then the statement (R151). -/

namespace Sys2Proof.CommitProcedure

open Sys2Proof Sys2Proof.Machine Sys2Proof.Claims

/-! ### The tests of COMMIT -/

section
variable {code : Nat} {s : State}

/-- Test 1: only a truck end commits. -/
theorem commitRefusal_of_mast (hr : s.role = .mast) : commitRefusal code s = some .notRole := by
  simp [commitRefusal, hr]

/-- Test 2: a trigger code is at most 15. -/
theorem commitRefusal_of_code_gt (hr : s.role = .truck) (hb : 15 < code) : commitRefusal code s = some .badField := by
  simp [commitRefusal, hr, hb]

/-- Test 3: neither a commit nor a full sync runs. -/
theorem commitRefusal_of_running (hr : s.role = .truck) (hb : code ≤ 15)
    (hrun : s.orders.commit ≠ none ∨ s.orders.fullSync ≠ none) : commitRefusal code s = some .busy := by
  have hrun : (s.orders.commit.isSome || s.orders.fullSync.isSome) = true := by
    simpa [Option.isSome_iff_ne_none] using hrun
  simp [commitRefusal, hr, not_lt.2 hb, hrun]

/-- Past its first three tests, a COMMIT has those of the link, of the supply and of the change set before it, in this
order. -/
theorem commitRefusal_of_idle (hr : s.role = .truck) (hb : code ≤ 15) (hc : s.orders.commit = none)
    (hf : s.orders.fullSync = none) :
    commitRefusal code s =
      if s.link.state ≠ .carrying then some .noLink
      else if eitherDeadBand s then some .frozen
      else if s.changes = [] then some .nothingStaged
      else none := by
  simp [commitRefusal, hr, not_lt.2 hb, hc, hf, CircuitTable.frozen_eq_eitherDeadBand]

/-! ### What COMMIT does -/

/-- A running part executes COMMIT by its tests on the trigger code. -/
theorem exec_commit {b : Byte} (hs : Runs s) : exec (.commit [b]) s = .next (startCommit b.toNat s) :=
  request_of_length hs rfl _

/-- A test that fails gives the answer, and nothing else changes. -/
theorem startCommit_of_refused {refusal : AnswerCode} (h : commitRefusal code s = some refusal) :
    startCommit code s = respond 0x16 refusal [] s := by
  simp [startCommit, h]

/-- Past its tests, a COMMIT starts a commit and answers OK, and nothing else changes: a pending order stays. -/
theorem startCommit_of_passed (h : commitRefusal code s = none) :
    startCommit code s =
      respond 0x16 .ok [.num 2 (after s.table.generation).toNat, .num 1 s.changes.length, .num 1 code]
        { s with orders := { s.orders with commit := some (newCommit code s) } } := by
  unfold startCommit
  rw [h]
  rfl

/-- A running part answers a COMMIT with the test that fails. -/
theorem exec_commit_of_refused {b : Byte} {refusal : AnswerCode} (hs : Runs s)
    (h : commitRefusal b.toNat s = some refusal) : exec (.commit [b]) s = .next (respond 0x16 refusal [] s) := by
  rw [exec_commit hs, startCommit_of_refused h]

/-- Where no full sync runs, the transfer that runs is the commit's, of the change set in its order. -/
theorem runningTransfer_of_commit {j : CommitJob} (hf : s.orders.fullSync = none) (hc : s.orders.commit = some j) :
    runningTransfer s = some (j.transfer, j.target, .change, s.changes) := by
  simp [runningTransfer, hf, hc]

/-- The transfer that an accepted COMMIT begins is unopened, and its items are the change set in list order. -/
theorem runningTransfer_startCommit (h : commitRefusal code s = none) (hf : s.orders.fullSync = none) :
    runningTransfer (startCommit code s) = some (Transfer.fresh, after s.table.generation, .change, s.changes) := by
  rw [startCommit_of_passed h]
  exact runningTransfer_of_commit (j := newCommit code s) hf rfl

end

/-- While a commit runs at the truck end, the change set is closed to every edit. -/
theorem stage_of_commit {s : State} (code : Byte) (edit : Option Edit) (hr : s.role = .truck)
    (hc : s.orders.commit ≠ none) : stage code edit s = respond code .busy [] s := by
  simp [stage, hr, Option.isSome_iff_ne_none.2 hc]

/-- Settles O18, by the outcome of the tests; the transfer that then runs is that of the new commit. -/
theorem commitTestsInOrder : Obligations.CommitTestsInOrder := by
  intro s b hs
  refine ⟨fun hr => exec_commit_of_refused hs (commitRefusal_of_mast hr), fun hr =>
    ⟨fun hb => exec_commit_of_refused hs (commitRefusal_of_code_gt hr hb), fun hb =>
      ⟨fun hrun => exec_commit_of_refused hs (commitRefusal_of_running hr hb hrun), fun hc hf => ?_⟩⟩,
    fun c code edit hreq hr hc => ?_⟩
  · have htests := commitRefusal_of_idle hr hb hc hf
    refine ⟨fun hl => exec_commit_of_refused hs ?_, fun hl => ⟨fun hd => exec_commit_of_refused hs ?_, fun hd =>
      ⟨fun he => exec_commit_of_refused hs ?_, fun he => ?_⟩⟩⟩
    · rw [htests, if_pos hl]
    · simp [htests, hl, hd]
    · simp [htests, hl, hd, he]
    · have hpass : commitRefusal b.toNat s = none := by simp [htests, hl, hd, he]
      exact ⟨startCommit b.toNat s, exec_commit hs, startCommit_of_passed hpass, runningTransfer_startCommit hpass hf⟩
  · rw [CircuitTable.exec_stagingRequest hreq hs, stage_of_commit code edit hr hc]

end Sys2Proof.CommitProcedure
end

section
/-! The family of the host port. What EVENTS and EVENT MASK leave in the flag word, in the mask and in the held answer, and
that the attention line is the state of one enabled flag or more; then the statements (R191, R192). -/

namespace Sys2Proof.EventUnit

open Sys2Proof Sys2Proof.Machine Sys2Proof.Claims

/-! ### The bits of the flag word (R200) -/

/-- A flag's bit lies in the word of two bytes. -/
theorem flagBit_lt (f : Flag) : flagBit f < 16 := by cases f <;> decide

/-- Every bit of the word is the bit of a flag. -/
theorem exists_flagBit_eq (i : Fin 16) : ∃ f : Flag, flagBit f = i := by
  have hlist : ∀ i : Fin 16, ∃ f ∈ ([.badRequest, .counterSat, .poolFull, .supply, .driver, .storm, .strike, .planMismatch,
      .callFailed, .commitAbandoned, .commitDone, .serviceReduced, .orderTaken, .link, .grade, .lane] : List Flag),
      flagBit f = i := by decide
  obtain ⟨f, -, hf⟩ := hlist i
  exact ⟨f, hf⟩

/-- A set of flags in two bytes is the word that the bytes spell. -/
theorem flagsOf_pair (b0 b1 : Byte) : flagsOf [b0, b1] = b0 ++ b1 := by
  have hnum : numAt [b0, b1] 0 2 = b0.toNat * 2 ^ 8 + b1.toNat := by simp [numAt, slice, natOfBytes]
  apply BitVec.eq_of_toNat_eq
  unfold flagsOf
  rw [hnum, BitVec.toNat_append, ← Nat.shiftLeft_add_eq_or_of_lt b1.isLt, Nat.shiftLeft_eq, BitVec.toNat_ofNat]
  omega

/-! ### EVENTS and EVENT MASK -/

section
variable (clear : BitVec 16) (s : State)

@[simp] theorem clearEvents_held :
    (clearEvents clear s).host.held = some ⟨0x03, .ok, [.num 2 s.host.flags.toNat]⟩ := rfl

@[simp] theorem clearEvents_flags : (clearEvents clear s).host.flags = s.host.flags &&& ~~~clear := rfl

@[simp] theorem clearEvents_mask : (clearEvents clear s).host.mask = s.host.mask := rfl

/-- What EVENTS leaves set: the flags that were set and are not in the clear set (R191). -/
@[simp] theorem flagSet_clearEvents (f : Flag) :
    flagSet f (clearEvents clear s) = (flagSet f s && !clear.getLsbD (flagBit f)) := by
  unfold flagSet
  rw [clearEvents_flags, BitVec.getLsbD_and, BitVec.getLsbD_not, decide_eq_true (flagBit_lt f), Bool.true_and]

/-- With an empty clear set the flags are reported, and nothing else changes. -/
theorem clearEvents_zero : clearEvents 0 s = respond 0x03 .ok [.num 2 s.host.flags.toNat] s := by
  have hkept : s.host.flags &&& ~~~(0 : BitVec 16) = s.host.flags := BitVec.and_allOnes
  unfold clearEvents
  rw [hkept]
  rfl

end

section
variable {s : State} {b0 b1 : Byte}

/-- A running part executes EVENTS with the clear set that its body spells. -/
theorem exec_events (hs : Runs s) : exec (.events [b0, b1]) s = .next (clearEvents (b0 ++ b1) s) := by
  rw [← flagsOf_pair]
  exact request_of_length hs rfl _

/-- A running part executes EVENT MASK with the marks that its body spells. -/
theorem exec_eventMask (hs : Runs s) : exec (.eventMask [b0, b1]) s = .next (writeMask (b0 ++ b1) s) := by
  rw [← flagsOf_pair]
  exact request_of_length hs rfl _

end

/-- Settles O8: EVENTS clears its clear set in the word that it reported, and a flag set before it is in that word. -/
theorem eventsReportAndClear : Obligations.EventsReportAndClear := by
  intro s b0 b1 hs
  refine ⟨⟨clearEvents (b0 ++ b1) s, exec_events hs, rfl, fun f => flagSet_clearEvents _ s f, fun f => by simp⟩, ?_,
    fun f => ?_⟩
  · rw [exec_events hs]
    exact congrArg _ (clearEvents_zero s)
  · have hset : flagSet f (raise f s) = true := by simp
    refine ⟨clearEvents (b0 ++ b1) (raise f s), exec_events hs, ⟨(raise f s).host.flags, rfl, hset⟩, ?_⟩
    rw [flagSet_clearEvents, hset, Bool.true_and]

/-! ### The attention line (R192) -/

section
variable (s : State)

/-- The line is asserted exactly while a flag is set whose mark is enabled. -/
theorem attention_iff :
    attention s = true ↔ ∃ f : Flag, flagSet f s = true ∧ s.host.mask.getLsbD (flagBit f) = true := by
  unfold attention flagSet
  rw [decide_eq_true_iff]
  constructor
  · intro hne
    obtain ⟨i, hi⟩ : ∃ i : Fin 16, (s.host.flags &&& s.host.mask).getLsbD i = true := by
      by_contra! hnone
      exact hne (BitVec.eq_of_getLsbD_eq fun i hi => by simpa using hnone ⟨i, hi⟩)
    obtain ⟨f, hf⟩ := exists_flagBit_eq i
    rw [← hf, BitVec.getLsbD_and, Bool.and_eq_true] at hi
    exact ⟨f, hi⟩
  · rintro ⟨f, hset, henabled⟩ hzero
    have hbit : (s.host.flags &&& s.host.mask).getLsbD (flagBit f) = true := by
      rw [BitVec.getLsbD_and, hset, henabled, Bool.and_true]
    simp [hzero] at hbit

/-- A flag that is set asserts the line only where its mark is enabled. -/
theorem attention_raise (f : Flag) : attention (raise f s) = (attention s || s.host.mask.getLsbD (flagBit f)) := by
  rw [Bool.eq_iff_iff, Bool.or_eq_true, attention_iff, attention_iff]
  simp only [flagSet_raise, raise_mask, Bool.or_eq_true, decide_eq_true_eq, or_and_right, exists_or, exists_eq_left]

/-- With no flag set the line is released. -/
theorem attention_of_no_flags {s : State} (h : s.host.flags = 0) : attention s = false := by
  simp [attention, h]

/-- Bit 7 of the status byte is the attention mark (R200). -/
theorem statusByte_attention (a ready commit : Bool) : (statusByte a ready commit).getLsbD 7 = a := by
  cases a <;> cases ready <;> cases commit <;> rfl

/-- The first byte that a FETCH shifts out shows the line. -/
theorem fetchFrame_attention : (byteAt (fetchFrame s) 0).getLsbD 7 = attention s := statusByte_attention _ _ _

end

/-- Settles O9: the line follows the flag word and the mask, which each command and each reset writes as stated. -/
theorem eventMaskAndAttention : Obligations.EventMaskAndAttention := by
  refine ⟨fun s b0 b1 hs => ⟨exec_eventMask hs, clearEvents (b0 ++ b1) s, exec_events hs, ?_, rfl⟩, fun s =>
    ⟨attention_iff s, fun f => ⟨by simp, attention_raise s f⟩, fetchFrame_attention s, attention_of_no_flags rfl,
      fun held => attention_of_no_flags rfl⟩⟩
  unfold attention
  rw [clearEvents_flags, clearEvents_mask]

end Sys2Proof.EventUnit
end

section
/-! The frame of every shared operation, in one notion: which parts of the state an operation may touch. One lemma for
each operation names those parts; all others are read off it as they stood. -/

-- One declaration after another: side by side, the proofs of the text need more memory than its check allows.
set_option Elab.async false

namespace Sys2Proof.Frame

open Sys2Proof Sys2Proof.Machine Sys2Proof.Claims

/-- The parts that operations touch or leave alone, each a field of the state or a field of one of its blocks. -/
inductive Part where
  | pending | role | resetting | count | counting | params | slots | generation | changes | stage | planner | lanes
  | handed | sent | prot | chan | link | orders | exhausted | stray | limits | delivered | held | flags | mask | cause
  | shifted
deriving DecidableEq

/-- Two states agree in a part. -/
def agree (s t : State) : Part → Prop
  | .pending => t.pending = s.pending
  | .role => t.role = s.role
  | .resetting => t.resetting = s.resetting
  | .count => t.count = s.count
  | .counting => t.counting = s.counting
  | .params => t.params = s.params
  | .slots => t.table.slots = s.table.slots
  | .generation => t.table.generation = s.table.generation
  | .changes => t.changes = s.changes
  | .stage => t.stage = s.stage
  | .planner => t.planner = s.planner
  | .lanes => t.lanes = s.lanes
  | .handed => t.handed = s.handed
  | .sent => t.sent = s.sent
  | .prot => t.prot = s.prot
  | .chan => t.chan = s.chan
  | .link => t.link = s.link
  | .orders => t.orders = s.orders
  | .exhausted => t.service.exhausted = s.service.exhausted
  | .stray => t.service.stray = s.service.stray
  | .limits => t.service.limits = s.service.limits
  | .delivered => t.service.delivered = s.service.delivered
  | .held => t.host.held = s.host.held
  | .flags => t.host.flags = s.host.flags
  | .mask => t.host.mask = s.host.mask
  | .cause => t.host.cause = s.host.cause
  | .shifted => t.host.shifted = s.host.shifted

/-- Of the parts of `s`, `t` differs in none but those listed. -/
def Only (ps : List Part) (s t : State) : Prop := ∀ p : Part, p ∉ ps → agree s t p

section
variable {ps qs : List Part} {s t u : State}

theorem Only.refl (ps : List Part) (s : State) : Only ps s s := fun p _ => by cases p <;> rfl

theorem agree_trans {p : Part} (h : agree s t p) (h' : agree t u p) : agree s u p := by
  cases p <;> exact h'.trans h

theorem Only.trans (h : Only ps s t) (h' : Only ps t u) : Only ps s u := fun p hp => agree_trans (h p hp) (h' p hp)

/-- What touches few parts touches no more than many. -/
theorem Only.mono (h : Only ps s t) (hpq : ∀ p ∈ ps, p ∈ qs := by decide) : Only qs s t :=
  fun p hp => h p fun hps => hp (hpq p hps)

/-- One operation after another, each within the parts listed. -/
theorem Only.andThen {rs : List Part} (h : Only ps s t) (h' : Only qs t u) (hp : ∀ p ∈ ps, p ∈ rs := by decide)
    (hq : ∀ p ∈ qs, p ∈ rs := by decide) : Only rs s u := (h.mono hp).trans (h'.mono hq)

/-- An operation within the parts listed already. -/
theorem Only.also (h : Only ps s t) (h' : Only qs t u) (hq : ∀ p ∈ qs, p ∈ ps := by decide) : Only ps s u :=
  h.trans (h'.mono hq)

/-- A step that is made under a condition. -/
theorem Only.ite {c : Prop} [Decidable c] (h : c → Only ps s t) (h' : ¬ c → Only ps s u) :
    Only ps s (if c then t else u) := by
  split
  · next hc => exact h hc
  · next hc => exact h' hc

theorem Only.role (h : Only ps s t) (hp : Part.role ∉ ps := by decide) : t.role = s.role := h _ hp
theorem Only.pending (h : Only ps s t) (hp : Part.pending ∉ ps := by decide) : t.pending = s.pending := h _ hp
theorem Only.resetting (h : Only ps s t) (hp : Part.resetting ∉ ps := by decide) : t.resetting = s.resetting := h _ hp
theorem Only.count (h : Only ps s t) (hp : Part.count ∉ ps := by decide) : t.count = s.count := h _ hp
theorem Only.counting (h : Only ps s t) (hp : Part.counting ∉ ps := by decide) : t.counting = s.counting := h _ hp
theorem Only.params (h : Only ps s t) (hp : Part.params ∉ ps := by decide) : t.params = s.params := h _ hp
theorem Only.slots (h : Only ps s t) (hp : Part.slots ∉ ps := by decide) : t.table.slots = s.table.slots := h _ hp
theorem Only.generation (h : Only ps s t) (hp : Part.generation ∉ ps := by decide) :
    t.table.generation = s.table.generation := h _ hp
theorem Only.changes (h : Only ps s t) (hp : Part.changes ∉ ps := by decide) : t.changes = s.changes := h _ hp
theorem Only.stage (h : Only ps s t) (hp : Part.stage ∉ ps := by decide) : t.stage = s.stage := h _ hp
theorem Only.planner (h : Only ps s t) (hp : Part.planner ∉ ps := by decide) : t.planner = s.planner := h _ hp
theorem Only.lanes (h : Only ps s t) (hp : Part.lanes ∉ ps := by decide) : t.lanes = s.lanes := h _ hp
theorem Only.handed (h : Only ps s t) (hp : Part.handed ∉ ps := by decide) : t.handed = s.handed := h _ hp
theorem Only.sent (h : Only ps s t) (hp : Part.sent ∉ ps := by decide) : t.sent = s.sent := h _ hp
theorem Only.prot (h : Only ps s t) (hp : Part.prot ∉ ps := by decide) : t.prot = s.prot := h _ hp
theorem Only.chan (h : Only ps s t) (hp : Part.chan ∉ ps := by decide) : t.chan = s.chan := h _ hp
theorem Only.link (h : Only ps s t) (hp : Part.link ∉ ps := by decide) : t.link = s.link := h _ hp
theorem Only.orders (h : Only ps s t) (hp : Part.orders ∉ ps := by decide) : t.orders = s.orders := h _ hp
theorem Only.exhausted (h : Only ps s t) (hp : Part.exhausted ∉ ps := by decide) :
    t.service.exhausted = s.service.exhausted := h _ hp
theorem Only.limits (h : Only ps s t) (hp : Part.limits ∉ ps := by decide) : t.service.limits = s.service.limits := h _ hp
theorem Only.flags (h : Only ps s t) (hp : Part.flags ∉ ps := by decide) : t.host.flags = s.host.flags := h _ hp
theorem Only.table (h : Only ps s t) (hs : Part.slots ∉ ps := by decide) (hg : Part.generation ∉ ps := by decide) :
    t.table = s.table := by
  have h1 : t.table.slots = s.table.slots := h _ hs
  have h2 : t.table.generation = s.table.generation := h _ hg
  calc t.table = ⟨t.table.slots, t.table.generation⟩ := rfl
    _ = s.table := by rw [h1, h2]

/-- The parts of `t` where they are listed, and those of `s` elsewhere. -/
def merge (ps : List Part) (s t : State) : State where
  pending := if .pending ∈ ps then t.pending else s.pending
  role := if .role ∈ ps then t.role else s.role
  resetting := if .resetting ∈ ps then t.resetting else s.resetting
  count := if .count ∈ ps then t.count else s.count
  counting := if .counting ∈ ps then t.counting else s.counting
  params := if .params ∈ ps then t.params else s.params
  table := ⟨if .slots ∈ ps then t.table.slots else s.table.slots,
    if .generation ∈ ps then t.table.generation else s.table.generation⟩
  changes := if .changes ∈ ps then t.changes else s.changes
  stage := if .stage ∈ ps then t.stage else s.stage
  planner := if .planner ∈ ps then t.planner else s.planner
  lanes := if .lanes ∈ ps then t.lanes else s.lanes
  handed := if .handed ∈ ps then t.handed else s.handed
  sent := if .sent ∈ ps then t.sent else s.sent
  prot := if .prot ∈ ps then t.prot else s.prot
  chan := if .chan ∈ ps then t.chan else s.chan
  link := if .link ∈ ps then t.link else s.link
  orders := if .orders ∈ ps then t.orders else s.orders
  service := ⟨if .exhausted ∈ ps then t.service.exhausted else s.service.exhausted,
    if .stray ∈ ps then t.service.stray else s.service.stray,
    if .limits ∈ ps then t.service.limits else s.service.limits,
    if .delivered ∈ ps then t.service.delivered else s.service.delivered⟩
  host := ⟨if .held ∈ ps then t.host.held else s.host.held, if .flags ∈ ps then t.host.flags else s.host.flags,
    if .mask ∈ ps then t.host.mask else s.host.mask, if .cause ∈ ps then t.host.cause else s.host.cause,
    if .shifted ∈ ps then t.host.shifted else s.host.shifted⟩

/-- What differs in the listed parts alone is the state before with those parts written. -/
theorem Only.eq_merge (h : Only ps s t) : t = merge ps s t := by
  have key : ∀ (p : Part) {α : Type} (a b : α), (p ∉ ps → a = b) → a = if p ∈ ps then a else b := by
    intro p α a b hab
    split
    · rfl
    · next hp => exact hab hp
  cases t with
  | mk pending role resetting count counting params table changes stage planner lanes handed sent prot chan link orders
      service host =>
    cases table; cases service; cases host
    unfold merge
    congr
    all_goals exact key _ _ _ fun hp => h _ hp

end


/-- A state that is the one before with listed parts written touches those alone. -/
theorem Only.of_eq {ps : List Part} {s t : State} (h : t = merge ps s t) : Only ps s t := by
  intro p hp
  rw [h]
  cases p <;> simp [agree, merge, hp]

end Sys2Proof.Frame
end

section
/-! The frame of each shared operation. -/

-- One declaration after another: side by side, the proofs of the text need more memory than its check allows.
set_option Elab.async false

namespace Sys2Proof.Frame

open Sys2Proof Sys2Proof.Machine Sys2Proof.Claims

/-! ### Flags, answers, lanes and protection -/

section
variable (s : State)

theorem raise_only (f : Flag) : Only [.flags] s (raise f s) := .of_eq rfl

theorem raiseIf_only (b : Bool) (f : Flag) : Only [.flags] s (raiseIf b f s) := .ite (fun _ => raise_only s f) fun _ => .refl _ _

theorem respond_only (c : Byte) (a : AnswerCode) (b : List Field) : Only [.held] s (respond c a b s) := .of_eq rfl

/-- Operations on lanes, protection and flags have their frame from what is set aside for them. -/
theorem only_of_asideGuards {s t : State} (h : t.asideGuards = s.asideGuards) : Only [.lanes, .prot, .flags] s t :=
  .of_eq (eq_of_asideGuards h)

/-- Operations on slots, the exhaustion mark and flags have theirs. -/
theorem only_of_asideSlots {s t : State} (h : t.asideSlots = s.asideSlots) : Only [.slots, .exhausted, .flags] s t :=
  .of_eq (eq_of_asideSlots h)

theorem changeLane_only (l : Fin 4) (new : Lane) : Only [.lanes, .flags] s (changeLane l new s) :=
  Only.andThen (.of_eq (ps := [.lanes]) rfl) (raiseIf_only _ _ _)

theorem expireGuards_only : Only [.lanes, .prot, .flags] s (expireGuards s) := only_of_asideGuards (expireGuards_asideGuards s)

theorem countStrike_only (i : Fin 4) : Only [.lanes, .prot, .flags] s (countStrike i s) :=
  only_of_asideGuards (countStrike_asideGuards i s)

theorem expireStrikeHold_only (l : Fin 4) : Only [.lanes, .prot, .flags] s (expireStrikeHold l s) :=
  only_of_asideGuards (expireStrikeHold_asideGuards l s)

theorem expireStormDecay_only : Only [.lanes, .prot, .flags] s (expireStormDecay s) :=
  only_of_asideGuards (expireStormDecay_asideGuards s)

theorem expireBlanking_only (l : Fin 4) : Only [.lanes, .prot, .flags] s (expireBlanking l s) :=
  only_of_asideGuards (expireBlanking_asideGuards l s)

theorem expireRetry_only (l : Fin 4) : Only [.lanes, .prot, .flags] s (expireRetry l s) :=
  only_of_asideGuards (expireRetry_asideGuards l s)

theorem releaseDriver_only (l : Fin 4) : Only [.lanes, .prot, .flags] s (releaseDriver l s) :=
  only_of_asideGuards (releaseDriver_asideGuards l s)

theorem removeCause_only (c : Cause) (l : Fin 4) : Only [.lanes, .prot, .flags] s (removeCause c l s) :=
  only_of_asideGuards (removeCause_asideGuards c l s)

theorem applyCause_only (c : Cause) (l : Fin 4) : Only [.lanes, .prot, .flags] s (applyCause c l s) :=
  only_of_asideGuards (applyCause_asideGuards c l s)

theorem tripThermal_only (l : Fin 4) : Only [.lanes, .prot, .flags] s (tripThermal l s) :=
  (raise_only s _).andThen (applyCause_only _ _ _)

theorem endRefractory_only (i : Fin 4) : Only [.prot] s (endRefractory i s) := .of_eq rfl

theorem putGuard_only (l : Fin 4) (g : LaneGuard) : Only [.prot] s (putGuard l g s) := .of_eq rfl

theorem reportOvercurrent_only (l : Fin 4) : Only [.prot] s (reportOvercurrent l s) :=
  .ite (fun _ => putGuard_only _ _ _) fun _ => .refl _ _

theorem endOvercurrent_only (l : Fin 4) : Only [.prot] s (endOvercurrent l s) :=
  .ite (fun _ => putGuard_only _ _ _) fun _ => .refl _ _

/-- An operation done on some lanes in turn touches what it touches on one. -/
theorem onLanes_only {ps : List Part} {pick : Fin 4 → Bool} {f : Fin 4 → State → State}
    (hf : ∀ l s, Only ps s (f l s)) : Only ps s (onLanes pick f s) :=
  onLanes_keeps (P := Only ps s) (fun l _ h => h.trans (hf l _)) (.refl _ _)

theorem isolateLane_only (was now : Bool) (l : Fin 4) : Only [.lanes, .prot, .flags] s (isolateLane was now l s) :=
  .ite (fun _ => .refl _ _) fun _ => .ite (fun _ => applyCause_only _ _ _) fun _ => removeCause_only _ _ _

theorem writeGuardConfig_only (new : GuardConfig) : Only [.lanes, .prot, .flags] s (writeGuardConfig new s) :=
  Only.andThen (.of_eq (ps := [.prot]) rfl) (onLanes_only _ fun l s => isolateLane_only s _ _ l)

theorem setSupply_only (x : Supply) : Only [.prot, .flags] s (setSupply x s) :=
  Only.andThen (.of_eq (ps := [.prot]) rfl) (raiseIf_only _ _ _)

/-! ### Queues, link moves and drops -/

theorem settlePool_only : Only [.exhausted] s (settlePool s) := .of_eq rfl

theorem trimQueues_only (limit : Fin 64 → Nat) : Only [.slots, .exhausted, .flags] s (trimQueues limit s) :=
  only_of_asideSlots (trimQueues_asideSlots limit s)

theorem setLink_only (k : LinkState) : Only [.link, .flags] s (setLink k s) :=
  Only.andThen (.of_eq (ps := [.link]) rfl) (raiseIf_only _ _ _)

theorem stopSchedule_only : Only [.link] s (stopSchedule s) := .of_eq rfl

theorem startPhase_only (p : CallPhase) (a n : Nat) : Only [.link] s (startPhase p a n s) := .of_eq rfl

theorem startRound_only : Only [.link] s (startRound s) := startPhase_only _ _ _ _

theorem abandonCommit_only : Only [.orders, .flags] s (abandonCommit s) :=
  Only.andThen (raiseIf_only s (s.orders.commit.isSome && (commitKept s.orders.commit).isNone) .commitAbandoned)
    (.of_eq (ps := [.orders]) rfl)

/-- What a move of the link to CALLING or STANDBY touches (R130, R131). -/
def dropParts : List Part := [.slots, .exhausted, .limits, .flags, .orders, .planner, .stage, .chan, .link]

theorem dropAll_only : Only dropParts s (dropAll s) :=
  (((trimQueues_only s _).mono (qs := dropParts)).also (abandonCommit_only _)).trans (.of_eq rfl)

theorem moveToCalling_only : Only dropParts s (moveToCalling s) :=
  ((dropAll_only s).also (setLink_only _ _)).also (startRound_only _)

theorem moveToStandby_only : Only dropParts s (moveToStandby s) :=
  ((dropAll_only s).also (setLink_only _ _)).also (stopSchedule_only _)

theorem moveToSyncing_only : Only [.link, .flags] s (moveToSyncing s) := (setLink_only _ _).andThen (stopSchedule_only _)

theorem returnFromHoldover_only : Only [.link, .flags] s (returnFromHoldover s) :=
  (setLink_only _ _).trans (.of_eq rfl)

theorem linkHears_only : Only [.link, .flags] s (linkHears s) := by
  unfold linkHears
  split
  · exact moveToSyncing_only s
  · exact returnFromHoldover_only s
  · exact .refl _ _

theorem linkTakes_only : Only [.link, .flags] s (linkTakes s) := by
  unfold linkTakes
  split
  · exact setLink_only _ _
  · exact .of_eq rfl
  · exact .refl _ _

/-! ### Orders at the truck end -/

theorem startFullSync_only : Only [.orders] s (startFullSync s) := .of_eq rfl

theorem judgeFullSync_only : Only [.orders] s (judgeFullSync s) :=
  .ite (fun _ => startFullSync_only s) fun _ => .refl _ _

theorem issueOrder_only (k : OrderKind) (g : Word16) (e : Count) (v : View) (rs : List Record) :
    Only [.planner, .orders] s (issueOrder k g e v rs s) := .of_eq rfl

theorem issueByNeed_only (m : Reply) (v : View) : Only [.planner, .orders] s (issueByNeed m v s) := by
  have plain : Only [.planner, .orders] s (if plainNeeded v s then issuePlain v s else s) :=
    .ite (fun _ => issueOrder_only _ _ _ _ _ _) fun _ => .refl _ _
  unfold issueByNeed
  split
  · exact .ite (fun _ => issueOrder_only _ _ _ _ _ _) fun _ => .refl _ _
  · split
    · exact .ite (fun _ => (issueOrder_only _ _ _ _ _ _).trans (.of_eq rfl)) fun _ => plain
    · exact plain

theorem judgeIssue_only : Only [.planner, .orders] s (judgeIssue s) := by
  refine .ite (fun _ => ?_) fun _ => .refl _ _
  split
  · exact issueByNeed_only _ _ _
  · exact .refl _ _

theorem putTable_only (slots : List Slot) (g : Word16) (b : Bool) :
    Only [.slots, .generation, .exhausted, .flags] s (putTable slots g b s) :=
  Only.andThen (Only.andThen (.of_eq (ps := [.slots, .generation]) rfl) (raiseIf_only _ b .counterSat)
    (rs := [.slots, .generation, .flags])) (settlePool_only _)

/-- What the application of a change set and the completion of its commit touch (R20, R157). -/
def commitParts : List Part := [.slots, .generation, .exhausted, .flags, .changes, .orders]

theorem applyChangeSet_only : Only [.slots, .generation, .exhausted, .flags, .changes] s (applyChangeSet s) :=
  Only.andThen (putTable_only s _ _ _) (.of_eq (ps := [.changes]) rfl)

theorem completeCommit_only (j : CommitJob) (e : Count) (b : Bool) : Only commitParts s (completeCommit j e b s) :=
  (((applyChangeSet_only s).mono (qs := commitParts)).also (raise_only _ _)).trans (.of_eq rfl)

theorem completeOrdered_only : Only commitParts s (completeOrdered s) := by
  unfold completeOrdered
  split
  · split
    · exact completeCommit_only _ _ _ _
    · exact .refl _ _
  · exact .refl _ _

theorem judgeCompletion_only : Only commitParts s (judgeCompletion s) := by
  unfold judgeCompletion
  split
  · split
    · exact .ite (fun _ => completeCommit_only _ _ _ _) fun _ => .refl _ _
    · exact .refl _ _
  · exact .refl _ _

theorem putInForce_only (st : Stamp) (v : View) : Only [.orders, .planner] s (putInForce st v s) := .of_eq rfl

/-- What the take of an order at the truck end touches (R143). -/
def truckTakeParts : List Part := [.slots, .generation, .exhausted, .flags, .changes, .orders, .planner, .link]

theorem takeAtTruck_only (o : Order) : Only truckTakeParts s (takeAtTruck o s) := by
  unfold takeAtTruck
  have h1 : Only truckTakeParts s (if o.kind = .commit then completeOrdered s else s) :=
    .ite (fun _ => (completeOrdered_only s).mono) fun _ => .refl _ _
  exact ((((h1.also (putInForce_only _ o.stamp o.view)).trans (.of_eq rfl)).also (raise_only _ _)).also
    (raiseIf_only _ _ _)).also (linkTakes_only _)

theorem judgeTakeTruck_only : Only truckTakeParts s (judgeTakeTruck s) := by
  unfold judgeTakeTruck
  split
  · exact takeAtTruck_only _ _
  · exact .refl _ _

/-! ### Orders at the mast end -/

theorem judgePlannable_only (o : OrderField) : Only [.orders, .planner] s (judgePlannable o s) := by
  unfold judgePlannable
  split
  · exact .of_eq rfl
  · exact .of_eq rfl

theorem applyStage_only (source : Option Source) :
    Only [.slots, .generation, .exhausted, .flags, .stage] s (applyStage source s) := by
  unfold applyStage
  split
  · exact Only.andThen (putTable_only s _ _ _) (.of_eq (ps := [.stage]) rfl)
  · exact Only.andThen (putTable_only s _ _ _) (.of_eq (ps := [.stage]) rfl)
  · exact .refl _ _

/-- What the take of an order at the mast end touches (R147). -/
def mastTakeParts : List Part := [.slots, .generation, .exhausted, .flags, .stage, .orders, .planner, .link]

theorem takeAtMast_only (h : HeardOrder) : Only mastTakeParts s (takeAtMast h s) := by
  unfold takeAtMast
  have staged := (applyStage_only s h.source).mono (qs := mastTakeParts)
  exact ((staged.also (putInForce_only _ _ _)).trans (.of_eq rfl)).also (linkTakes_only _)

theorem judgeTakeMast_only : Only mastTakeParts s (judgeTakeMast s) := by
  unfold judgeTakeMast
  split
  · exact takeAtMast_only _ _
  · exact .refl _ _

theorem abandonRunOf_only (h : Option HeardOrder) : Only [.planner] s (abandonRunOf h s) := by
  unfold abandonRunOf
  split
  · exact .ite (fun _ => .of_eq rfl) fun _ => .refl _ _
  · exact .refl _ _

theorem hearNew_only (o : OrderField) : Only mastTakeParts s (hearNew o s) := by
  unfold hearNew
  have h := (judgePlannable_only s o).andThen (rs := mastTakeParts) (abandonRunOf_only _ s.orders.heard)
  refine .ite (fun _ => ?_) fun _ => h
  split
  · exact h.trans (takeAtMast_only _ _)
  · exact h

theorem rejudgeHeard_only : Only [.orders, .planner] s (rejudgeHeard s) := by
  unfold rejudgeHeard
  split
  · exact .ite (fun _ => judgePlannable_only _ _) fun _ => .refl _ _
  · exact .refl _ _

theorem hearOrders_only (m : Steering) : Only mastTakeParts s (hearOrders m s) := by
  have again := (rejudgeHeard_only s).mono (qs := mastTakeParts)
  unfold hearOrders
  split
  · exact .ite (fun _ => again) fun _ => .ite (fun _ => again) fun _ => hearNew_only _ _
  · exact .ite (fun _ => (again.trans (.of_eq rfl)).also (raise_only _ _)) fun _ => again

/-! ### What the truck end reads from a reply -/

theorem decideSyncing_only (m : Reply) : Only [.orders] s (decideSyncing m s) :=
  .ite (fun _ => .ite (fun _ => .of_eq rfl) fun _ => .of_eq rfl) fun _ => .refl _ _

theorem markResync_only (m : Reply) : Only [.orders, .flags] s (markResync m s) := by
  have h := (raise_only s .planMismatch).mono (qs := [.orders, .flags])
  exact .ite (fun _ => h.trans (.of_eq rfl)) fun _ => (h.trans (abandonCommit_only _)).trans (.of_eq rfl)

theorem judgeMismatch_only (m : Reply) : Only [.orders, .flags] s (judgeMismatch m s) :=
  .ite (fun _ => .ite (fun _ => .ite (fun _ => markResync_only _ _) fun _ => .of_eq rfl) fun _ => .of_eq rfl)
    fun _ => .refl _ _

theorem readReply_only (m : Reply) : Only [.orders, .flags] s (readReply m s) :=
  ((decideSyncing_only s m).andThen (rs := [.orders, .flags]) (.of_eq (ps := [.orders]) rfl)).trans
    (judgeMismatch_only _ m)

end

end Sys2Proof.Frame
end

section
/-! The frame of lanes, cells, the control channel and the superframe boundary. -/

-- One declaration after another: side by side, the proofs of the text need more memory than its check allows.
set_option Elab.async false

namespace Sys2Proof.Frame

open Sys2Proof Sys2Proof.Machine Sys2Proof.Claims

/-! ### Lanes -/

section
variable (s : State)

/-- What a lane's evaluation touches (R66). -/
def evaluationParts : List Part := [.lanes, .handed, .flags, .count]

theorem evaluateLane_only (l : Fin 4) (input : LaneInput) : Only evaluationParts s (evaluateLane l input s) := by
  unfold evaluateLane
  refine .ite (fun _ => .of_eq rfl) fun _ => ?_
  exact ((((changeLane_only s _ _).mono (qs := evaluationParts)).also (raiseIf_only _ _ _)).trans (.of_eq rfl)).trans
    (.of_eq rfl)

theorem evaluateOnce_only (l : Fin 4) (input : LaneInput) : Only evaluationParts s (evaluateOnce l input s) :=
  .ite (fun _ => evaluateLane_only _ _ _) fun _ => .refl _ _

/-- What an evaluation after the takes that are due touches (R143, R147). -/
def namedEvaluationParts : List Part :=
  [.slots, .generation, .exhausted, .flags, .changes, .stage, .orders, .planner, .link, .lanes, .handed, .count]

theorem evaluateWhen_only (pick : Lane → Lane → Bool) (l : Fin 4) (input : LaneInput) :
    Only namedEvaluationParts s (evaluateWhen pick l input s) := by
  have taken := ((judgeTakeTruck_only s).mono (qs := namedEvaluationParts)).also (judgeTakeMast_only _)
  obtain h | ⟨-, -, h⟩ := evaluateWhen_cases pick l input s
  · rw [h]; exact .refl _ _
  · rw [h]; exact taken.also (evaluateLane_only _ _ _)

theorem evaluateAll_only (inputs : PerLane LaneInput) : Only evaluationParts s (evaluateAll inputs s) := by
  have h0 := evaluateOnce_only s 0 (inputs.get 0)
  exact ((h0.trans (evaluateOnce_only _ 1 _)).trans (evaluateOnce_only _ 2 _)).trans (evaluateOnce_only _ 3 _)

theorem setGrade_only (l g : Fin 4) : Only [.lanes, .flags] s (setGrade l g s) :=
  Only.andThen (.of_eq (ps := [.lanes]) rfl) (raiseIf_only _ _ _)

/-! ### Cells -/

theorem writeSlot_only (x : Slot) : Only [.slots] s (writeSlot x s) := .of_eq rfl

theorem writeCounted_only (x : Slot) (b : Bool) : Only [.slots, .flags] s (writeCounted x b s) :=
  (writeSlot_only s x).andThen (raiseIf_only _ _ _)

theorem dropCell_only (x : Slot) : Only [.slots, .flags] s (dropCell x s) := writeCounted_only _ _ _

theorem exhaustPool_only : Only [.exhausted, .flags] s (exhaustPool s) :=
  Only.trans ((raiseIf_only s _ _).mono) (.of_eq rfl)

theorem strayCell_only : Only [.stray, .flags] s (strayCell s) :=
  Only.andThen (.of_eq (ps := [.stray]) rfl) (raiseIf_only _ _ _)

theorem judgeCell_only (x : Slot) (cell : Cell) : Only [.slots, .exhausted, .flags] s (judgeCell x cell s) :=
  .ite (fun _ => (dropCell_only _ _).mono) fun _ => .ite (fun _ => (dropCell_only _ _).mono) fun _ =>
    .ite (fun _ => (dropCell_only _ _).andThen (exhaustPool_only _)) fun _ => (writeSlot_only _ _).mono

theorem arriveCell_only (port : Fin 32) (cell : Cell) :
    Only [.slots, .exhausted, .stray, .flags] s (arriveCell port cell s) := by
  unfold arriveCell
  split
  · exact (judgeCell_only _ _ _).mono
  · exact (strayCell_only _).mono

theorem sendEntry_only (e : Entry) : Only [.slots, .flags] s (sendEntry e s).2 := by
  unfold sendEntry
  dsimp only
  split
  · exact .refl _ _
  · split
    · exact .refl _ _
    · exact writeCounted_only _ _ _

theorem sendEntries_only (es : List Entry) : Only [.slots, .flags] s (sendEntries es s).2 := by
  induction es generalizing s with
  | nil => exact .refl _ _
  | cons e es ih => exact (sendEntry_only s e).trans (ih _)

theorem takeForSending_only : Only [.slots, .flags] s (takeForSending s).2 := by
  unfold takeForSending
  split
  · split
    · exact .refl _ _
    · exact sendEntries_only _ _
  · exact .refl _ _

theorem sendFrames_only (runs : List FilledRun) : Only [.sent, .lanes, .prot, .chan] s (sendFrames runs s) := .of_eq rfl

/-- What the sending of a superframe touches (R54, R167). -/
def sendingParts : List Part := [.slots, .exhausted, .flags, .sent, .lanes, .prot, .chan]

theorem sendSuperframe_only : Only sendingParts s (sendSuperframe s) :=
  (((takeForSending_only s).mono (qs := sendingParts)).also (settlePool_only _)).also (sendFrames_only _ _)

theorem deliverEntry_only (e : Entry) : Only [.slots, .flags, .delivered] s (deliverEntry s e) := by
  unfold deliverEntry
  split
  · exact .refl _ _
  · exact ((writeCounted_only s _ _).mono).trans (.of_eq rfl)

theorem deliverSuperframe_only : Only [.slots, .flags, .delivered] s (deliverSuperframe s) := by
  have blank : Only [.slots, .flags, .delivered] s { s with service := { s.service with delivered := [] } } := .of_eq rfl
  have fold (es : List Entry) (t : State) (h : Only [.slots, .flags, .delivered] s t) :
      Only [.slots, .flags, .delivered] s (es.foldl deliverEntry t) := by
    induction es generalizing t with
    | nil => exact h
    | cons e es ih => exact ih _ (h.trans (deliverEntry_only t e))
  unfold deliverSuperframe
  dsimp only
  split
  · exact .ite (fun _ => blank) fun _ => fold _ _ blank
  · exact blank

/-! ### The control channel -/

theorem formMessage_only : Only [.chan, .orders] s (formMessage s) := by
  unfold formMessage
  split
  · exact .refl _ _
  · split
    · split
      · exact .refl _ _
      · exact .of_eq rfl
    · split
      · split
        · exact .of_eq rfl
        · exact .refl _ _
      · exact .refl _ _

theorem enterHoldover_only (o : Origin) : Only [.link, .flags] s (enterHoldover o s) :=
  (setLink_only s _).trans (.of_eq rfl)

theorem countHoldover_only : Only [.link] s (countHoldover s) := .of_eq rfl

theorem judgeCycle_only : Only [.chan, .link, .flags] s (judgeCycle s) := by
  unfold judgeCycle
  dsimp only
  have missed : Only [.chan, .link, .flags] s { s with chan := judgeMiss s.params.missLimit s.chan } := .of_eq rfl
  split
  · exact .ite (fun _ => missed.also (enterHoldover_only _ _)) fun _ => missed
  · exact .ite (fun _ => missed.also (enterHoldover_only _ _)) fun _ => missed
  · exact missed.also (countHoldover_only _)
  · exact .refl _ _

theorem endCycle_only : Only [.chan, .link, .flags, .orders] s (endCycle s) := by
  unfold endCycle
  dsimp only
  have formed : Only [.chan, .link, .flags, .orders] s (formLimit s) := .of_eq rfl
  have judged : Only [.chan, .link, .flags, .orders] s
      (if endsVoid (formLimit s).params.c (formLimit s).count then formLimit s else judgeCycle (formLimit s)) :=
    .ite (fun _ => formed) fun _ => formed.also (judgeCycle_only _)
  exact .ite (fun _ => judged.trans (.of_eq rfl)) fun _ => (judged.trans (.of_eq rfl)).also (formMessage_only _)

theorem judgeCycleEnd_only : Only [.chan, .link, .flags, .orders] s (judgeCycleEnd s) :=
  .ite (fun _ => endCycle_only _) fun _ => .refl _ _

theorem judgeHoldover_only : Only dropParts s (judgeHoldover s) :=
  .ite (fun _ => (moveToCalling_only s).also (formMessage_only _)) fun _ => .refl _ _

theorem hearItem_only (m : Steering) : Only [.stage] s (hearItem m s) := by
  unfold hearItem
  split
  · exact .of_eq rfl
  · exact .ite (fun _ => .of_eq rfl) fun _ => .refl _ _

theorem setTiming_only (c lead : Nat) : Only [.params, .chan] s (setTiming c lead s) := .of_eq rfl

theorem takeTiming_only (m : Steering) : Only [.params, .chan] s (takeTiming m s) :=
  .ite (fun _ => setTiming_only _ _ _) fun _ => .refl _ _

/-- What an accepted steering message touches (R107). -/
def steeringParts : List Part :=
  [.slots, .generation, .exhausted, .flags, .stage, .orders, .planner, .link, .params, .chan]

theorem hearSteering_only (m : Steering) : Only steeringParts s (hearSteering m s) := by
  unfold hearSteering
  have heard : Only steeringParts s { s with chan := { channelHears s.chan with fromTruck := some (m, s.count) } } :=
    .of_eq rfl
  exact ((((heard.also (takeTiming_only _ m)).also (linkHears_only _)).also (hearItem_only _ m)).also
    (hearOrders_only _ m)).trans (.of_eq rfl)

theorem chooseSteering_only (m : Steering) (n : Count) : Only steeringParts s (chooseSteering m n s) :=
  .ite (fun _ => hearSteering_only _ _) fun _ => .refl _ _

theorem hearReply_only (m : Reply) : Only [.chan, .link, .flags, .orders] s (hearReply m s) := by
  unfold hearReply
  have heard : Only [.chan, .link, .flags, .orders] s
      { s with chan := { channelHears s.chan with fromMast := some (m, s.count) } } := .of_eq rfl
  exact (heard.also (linkHears_only _)).also (readReply_only _ m)

theorem chooseReply_only (m : Reply) : Only [.chan, .link, .flags, .orders] s (chooseReply m s) :=
  .ite (fun _ => hearReply_only _ _) fun _ => .refl _ _

theorem chooseMessage_only (msg : List Byte) (n : Count) : Only steeringParts s (chooseMessage msg n s) := by
  unfold chooseMessage
  split
  · exact chooseSteering_only _ _ _
  · split
    · exact (chooseReply_only _ _).mono
    · exact .refl _ _

theorem receiveControl_only : Only steeringParts s (receiveControl s) := by
  unfold receiveControl
  have waiting : Only steeringParts s
      { s with chan := { s.chan with waiting := PerLane.ofFn fun l => waitingAfter (s.handed.get l) } } := .of_eq rfl
  dsimp only
  split
  · exact waiting.trans (chooseMessage_only _ _ _)
  · exact waiting

/-! ### The call schedule, planning runs and the boundary -/

theorem failRound_only : Only dropParts s (failRound s) := by
  have h := (raise_only s .callFailed).mono (qs := dropParts)
  exact .ite (fun _ => h.trans (moveToStandby_only _)) fun _ => h.also (startPhase_only _ _ _ _)

theorem expireWindow_only : Only dropParts s (expireWindow s) :=
  .ite (fun _ => .ite (fun _ => (startPhase_only _ _ _ _).mono) fun _ => failRound_only _) fun _ => .refl _ _

theorem expireGap_only : Only [.link] s (expireGap s) := .ite (fun _ => startPhase_only _ _ _ _) fun _ => .refl _ _

theorem expireRecall_only : Only [.link] s (expireRecall s) := .ite (fun _ => startRound_only _) fun _ => .refl _ _

/-- What the end of a planning run touches (R42, R172). -/
def runEndParts : List Part := [.planner, .limits, .orders, .slots, .exhausted, .flags]

theorem endRun_only (r : Run) : Only runEndParts s (endRun r s) := by
  unfold endRun
  exact Only.also (.of_eq rfl) (trimQueues_only _ _)

theorem judgeRunEnd_only : Only runEndParts s (judgeRunEnd s) := by
  unfold judgeRunEnd
  split
  · exact endRun_only _ _
  · exact .refl _ _

/-- What the settling at the beginning of a superframe's boundary touches (assumption log 2). -/
def settleParts : List Part :=
  [.slots, .generation, .exhausted, .limits, .flags, .changes, .stage, .orders, .planner, .chan, .link, .lanes, .prot]

theorem settle_only : Only settleParts s (settle s) := by
  have timers := (((expireGuards_only s).mono (qs := settleParts)).also (expireWindow_only _)).also (expireGap_only _)
  have cycle := (((timers.also (expireRecall_only _)).also (judgeRunEnd_only _)).also (judgeCycleEnd_only _))
  exact (((cycle.also (judgeHoldover_only _)).also (judgeTakeTruck_only _)).also (judgeTakeMast_only _)).also
    (judgeCompletion_only _)

/-- What a superframe boundary touches: all but the queue of commands, role, reset conditions and the host port (R53). -/
def boundaryParts : List Part :=
  [.count, .params, .slots, .generation, .changes, .stage, .planner, .lanes, .handed, .sent, .prot, .chan, .link, .orders,
    .exhausted, .limits, .delivered, .flags]

theorem superframeWork_only (inputs : PerLane LaneInput) : Only boundaryParts s (superframeWork inputs s) := by
  have received := ((evaluateAll_only s inputs).mono (qs := boundaryParts)).also (deliverSuperframe_only _)
  exact (((received.also (receiveControl_only _)).also (judgeFullSync_only _)).also (judgeIssue_only _)).also
    (sendSuperframe_only _)

theorem advance_only : Only [.count, .planner, .handed, .prot, .link, .chan] s (advance s) := .of_eq rfl

theorem completeSuperframe_only (inputs : PerLane LaneInput) : Only boundaryParts s (completeSuperframe inputs s) :=
  (((settle_only s).mono (qs := boundaryParts)).trans (superframeWork_only _ inputs)).also (advance_only _)

end

end Sys2Proof.Frame
end

section
/-! What one step can do, said once: nothing, a reset or a level of the board, or one piece of work of a part that runs,
and then an answer. Every invariant is proved along these cases. -/

-- One declaration after another: side by side, the proofs of the text need more memory than its check allows.
set_option Elab.async false

namespace Sys2Proof.Frame

open Sys2Proof Sys2Proof.Machine Sys2Proof.Claims

/-- The parts that answers, event flags, FETCH and the clearing of the stray-cell counter touch. -/
def hostParts : List Part := [.held, .flags, .mask, .shifted, .stray]

/-- The parts that no work of a running part leaves alone by itself: all but the queue of commands, role and reset
conditions. -/
def workParts : List Part :=
  [.count, .counting, .params, .slots, .generation, .changes, .stage, .planner, .lanes, .handed, .sent, .prot, .chan, .link,
    .orders, .exhausted, .stray, .limits, .delivered, .held, .flags, .mask, .cause, .shifted]

/-- The work that one command does in a part that runs, apart from its answer: one constructor for each piece of work. -/
inductive Work (s : State) : State → Prop where
  | nothing : Work s s
  | configure (body : List Byte) (h : timingRefused body s = false) : Work s (writeParams (writtenParams body s.params) s)
  | laneSetup (l : Fin 4) (kind : Kind) (enable : Bool) (h : (s.lanes.get l).state = .off ∨ enable = false) :
      Work s (changeLane l (setupLane kind enable (noCauses (guardOf s l).causes) (s.lanes.get l)) s)
  | protectionSetup (body : List Byte) : Work s (writeGuardConfig (writtenGuards body s.prot.config) s)
  | stage (e : Edit) (es : List Edit) (hr : s.role = .truck) (hc : s.orders.commit = none)
      (h : stageEdit (recordsOf s.table.slots) s.changes e = .ok es) : Work s { s with changes := es }
  | discard (hr : s.role = .truck) (h : commitOrdered s = false) : Work s (abandonCommit { s with changes := [] })
  | commit (code : Nat) (h : commitRefusal code s = none) :
      Work s { s with orders := { s.orders with commit := some (newCommit code s) } }
  | trigger (code : Nat) (epoch : Count) : Work s (triggerCommit code epoch s)
  | clearCircuit (n : Fin 64) : Work s (clearCircuit n s)
  | clearLane (l : Fin 4) : Work s (clearLane l s)
  | clearGuards : Work s (clearGuards s)
  | release (l : Fin 4) : Work s (releaseDriver l s)
  | linkStart (h : s.link.state = .standby) : Work s { moveToCalling s with counting := true }
  | linkStop (h : s.link.state ≠ .standby) : Work s (moveToStandby s)
  | softReset : Work s (softReset s)
  | supply (x : Supply) : Work s (setSupply x s)
  | boundary (inputs : PerLane LaneInput) : Work s (completeSuperframe inputs s)
  | evaluation (pick : Lane → Lane → Bool) (l : Fin 4) (input : LaneInput) : Work s (evaluateWhen pick l input s)
  | cell (port : Fin 32) (cell : Cell) : Work s (arriveCell port cell s)
  | strike (i : Fin 4) : Work s (countStrike i s)
  | refractoryEnd (i : Fin 4) : Work s (endRefractory i s)
  | strikeHold (l : Fin 4) : Work s (expireStrikeHold l s)
  | stormDecay : Work s (expireStormDecay s)
  | overcurrent (l : Fin 4) : Work s (reportOvercurrent l s)
  | overcurrentEnd (l : Fin 4) : Work s (endOvercurrent l s)
  | blanking (l : Fin 4) : Work s (expireBlanking l s)
  | retry (l : Fin 4) : Work s (expireRetry l s)
  | thermalTrip (l : Fin 4) : Work s (tripThermal l s)
  | thermalRelease (l : Fin 4) : Work s (removeCause .thermal l s)
  | steering (m : Steering) : Work s (chooseSteering m (s.count - 1) s)
  | reply (m : Reply) : Work s (chooseReply m s)
  | cycleEnd : Work s (judgeCycleEnd s)
  | holdoverExpiry : Work s (judgeHoldover s)
  | callWindow : Work s (expireWindow s)
  | gap : Work s (expireGap s)
  | recallWait : Work s (expireRecall s)
  | orderIssue : Work s (judgeIssue s)
  | runEnd : Work s (judgeRunEnd s)
  | fullSync : Work s (judgeFullSync s)
  | takeTruck : Work s (judgeTakeTruck s)
  | takeMast : Work s (judgeTakeMast s)
  | completion : Work s (judgeCompletion s)

/-- What a part does whether it runs or is held in hard reset: a hard reset begins, a condition of one ends, or a GRADE
input takes a level (R49, R195). -/
inductive Board (s : State) : State → Prop where
  | hardReset (held : Resetting) (h : (held.powerOn || held.pin || held.supply) = true) : Board s (hardReset held s)
  | condition (cause : HardCause) (strap : Role) (high : Bool) : Board s (endCondition cause strap high s)
  | grade (l g : Fin 4) : Board s (setGrade l g s)

/-- One piece of work, and then what the host port does with it. -/
def Answered (s t : State) : Prop := ∃ u : State, Work s u ∧ Only hostParts u t

/-- All that a command can do: the board's doing, nothing while the part is held, or one answered piece of work. -/
def Taken (s t : State) : Prop := Board s t ∨ (inReset s = true ∧ t = s) ∨ (inReset s = false ∧ Answered s t)

section
variable {s t : State}

theorem Answered.work (h : Work s t) : Answered s t := ⟨t, h, .refl _ _⟩

theorem Answered.reading (h : Only hostParts s t) : Answered s t := ⟨s, .nothing, h⟩

theorem Answered.refusal (c : Byte) (a : AnswerCode) (b : List Field) : Answered s (respond c a b s) :=
  .reading (respond_only _ _ _ _).mono

/-- A piece of work that is answered. -/
theorem Answered.answer {u : State} (h : Work s u) (c : Byte) (a : AnswerCode) (b : List Field) :
    Answered s (respond c a b u) := ⟨u, h, (respond_only _ _ _ _).mono⟩

theorem taken_of_running {f : State → State} (h : running s f = .next t) (hf : Answered s (f s)) : Taken s t := by
  obtain ⟨hr, rfl⟩ | ⟨hr, rfl⟩ := running_cases h
  · exact .inr (.inl ⟨hr, rfl⟩)
  · exact .inr (.inr ⟨hr, hf⟩)

theorem taken_of_request {code : Byte} {n : Nat} {body : List Byte} {f : State → State}
    (h : request code n body s f = .next t) (hf : Answered s (f s)) : Taken s t := by
  obtain ⟨hr, rfl⟩ | ⟨hr, -, rfl⟩ | ⟨hr, -, rfl⟩ := request_cases h
  · exact .inr (.inl ⟨hr, rfl⟩)
  · exact .inr (.inr ⟨hr, hf⟩)
  · exact .inr (.inr ⟨hr, .refusal _ _ _⟩)

/-- A request that answers one of two things. -/
theorem Answered.ite {c : Prop} [Decidable c] {u : State} (h : c → Answered s t) (h' : ¬ c → Answered s u) :
    Answered s (if c then t else u) := by
  split
  · next hc => exact h hc
  · next hc => exact h' hc

/-! ### The requests -/

theorem configure_answered (body : List Byte) : Answered s (configure body s) :=
  .ite (fun _ => .refusal _ _ _) fun h => .answer (.configure body (Bool.eq_false_iff.2 h)) _ _ _

theorem laneSetupRequest_answered (body : List Byte) : Answered s (laneSetupRequest body s) := by
  unfold laneSetupRequest
  split
  · next l kind enable _ _ _ =>
    refine .ite (fun _ => .refusal _ _ _) fun h => .answer (.laneSetup l kind enable ?_) _ _ _
    by_cases hoff : (s.lanes.get l).state = .off
    · exact .inl hoff
    · exact .inr (Bool.eq_false_iff.2 fun he => h ⟨hoff, he⟩)
  · exact .refusal _ _ _

theorem stage_answered (code : Byte) (edit : Option Edit) : Answered s (stage code edit s) := by
  unfold stage
  refine .ite (fun _ => .refusal _ _ _) fun hr => .ite (fun _ => .refusal _ _ _) fun hc =>
    .ite (fun _ => .refusal _ _ _) fun _ => ?_
  split
  · exact .refusal _ _ _
  · next e =>
    split
    · exact .refusal _ _ _
    · next es hes =>
      have hrole : s.role = .truck := not_not.1 hr
      exact .answer (.stage e es hrole (Option.not_isSome_iff_eq_none.1 hc) hes) _ _ _

theorem discardChanges_answered : Answered s (discardChanges s) :=
  .ite (fun _ => .refusal _ _ _) fun hr => .ite (fun _ => .refusal _ _ _) fun h =>
    .answer (.discard (not_not.1 hr) (Bool.eq_false_iff.2 h)) _ _ _

theorem startCommit_answered (code : Nat) : Answered s (startCommit code s) := by
  unfold startCommit
  split
  · exact .refusal _ _ _
  · next h => exact .answer (.commit code h) _ _ _

theorem readCircuitCounters_answered (n k : Nat) : Answered s (readCircuitCounters n k s) := by
  unfold readCircuitCounters
  split
  · next n yes _ _ => cases yes with
    | true => exact .answer (.clearCircuit n) _ _ _
    | false => exact .refusal _ _ _
  · exact .refusal _ _ _

theorem readEndCounters_answered (n k : Nat) : Answered s (readEndCounters n k s) := by
  unfold readEndCounters
  split
  · next yes _ => cases yes with
    | true => exact .reading ((Only.of_eq (ps := hostParts) rfl).also (respond_only _ _ _ _))
    | false => exact .refusal _ _ _
  · exact .refusal _ _ _

theorem readLaneCounters_answered (n k : Nat) : Answered s (readLaneCounters n k s) := by
  unfold readLaneCounters
  split
  · next l yes _ _ => cases yes with
    | true => exact .answer (.clearLane l) _ _ _
    | false => exact .refusal _ _ _
  · exact .refusal _ _ _

theorem readGuardCounters_answered (n k : Nat) : Answered s (readGuardCounters n k s) := by
  unfold readGuardCounters
  split
  · next yes _ => cases yes with
    | true => exact .answer .clearGuards _ _ _
    | false => exact .refusal _ _ _
  · exact .refusal _ _ _

theorem readPlanCircuit_answered (n k : Nat) : Answered s (readPlanCircuit n k s) := by
  unfold readPlanCircuit
  split <;> exact .refusal _ _ _

theorem readPlanLane_answered (n k : Nat) : Answered s (readPlanLane n k s) := by
  unfold readPlanLane
  split <;> exact .refusal _ _ _

theorem readLane_answered (n : Nat) : Answered s (readLane n s) := by
  unfold readLane
  split <;> exact .refusal _ _ _

theorem readCircuit_answered (n : Nat) : Answered s (readCircuit n s) := by
  unfold readCircuit
  split <;> exact .refusal _ _ _

theorem releaseLane_answered (l : Fin 4) : Answered s (releaseLane l s) :=
  .ite (fun _ => .answer (.release l) _ _ _) fun _ => .refusal _ _ _

theorem linkStart_answered : Answered s (linkStart s) :=
  .ite (fun h => .answer (.linkStart h) _ _ _) fun _ => .refusal _ _ _

theorem linkStop_answered : Answered s (linkStop s) := by
  unfold linkStop
  split
  · exact .refusal _ _ _
  · next h => exact .answer (.linkStop h) _ _ _

/-! ### Every command -/

/-- What a command does, by the rows of the table. -/
theorem exec_taken {c : Instr} (h : exec c s = .next t) : Taken s t := by
  cases c with
  | identify b => exact taken_of_request h (.refusal _ _ _)
  | status b => exact taken_of_request h (.refusal _ _ _)
  | events b => exact taken_of_request h (.reading (.of_eq rfl))
  | eventMask b => exact taken_of_request h (.reading (.of_eq rfl))
  | configure b => exact taken_of_request h (configure_answered _)
  | laneSetup b => exact taken_of_request h (laneSetupRequest_answered _)
  | protectionSetup b => exact taken_of_request h (.answer (.protectionSetup b) _ _ _)
  | readCircuit b => exact taken_of_request h (readCircuit_answered _)
  | stageAdd b => exact taken_of_request h (stage_answered _ _)
  | stageModify b => exact taken_of_request h (stage_answered _ _)
  | stageRetire b => exact taken_of_request h (stage_answered _ _)
  | readChanges b => exact taken_of_request h (.refusal _ _ _)
  | discardChanges b => exact taken_of_request h discardChanges_answered
  | commit b => exact taken_of_request h (startCommit_answered _)
  | trigger b =>
    unfold exec execTrigger at h
    exact taken_of_running h (.ite (fun _ => .work (.trigger _ _)) fun _ => .reading (raise_only _ _).mono)
  | readPlanCircuit b =>
    unfold exec execReadPlanCircuit at h
    exact taken_of_request h (.ite (fun _ => readPlanCircuit_answered _ _) fun _ => .refusal _ _ _)
  | readPlanLane b =>
    unfold exec execReadPlanLane at h
    exact taken_of_request h (.ite (fun _ => readPlanLane_answered _ _) fun _ => .refusal _ _ _)
  | readLane b => exact taken_of_request h (readLane_answered _)
  | readCountersCircuit b =>
    unfold exec execReadCountersCircuit at h
    exact taken_of_request h (.ite (fun _ => readCircuitCounters_answered _ _) fun _ => .refusal _ _ _)
  | readCountersEnd b =>
    unfold exec execReadCountersEnd at h
    exact taken_of_request h (.ite (fun _ => readEndCounters_answered _ _) fun _ => .refusal _ _ _)
  | readCountersLane b =>
    unfold exec execReadCountersLane at h
    exact taken_of_request h (.ite (fun _ => readLaneCounters_answered _ _) fun _ => .refusal _ _ _)
  | readCountersProtection b =>
    unfold exec execReadCountersProtection at h
    exact taken_of_request h (.ite (fun _ => readGuardCounters_answered _ _) fun _ => .refusal _ _ _)
  | releaseLane b =>
    unfold exec execReleaseLane at h
    refine taken_of_request h ?_
    split
    · exact releaseLane_answered _
    · exact .refusal _ _ _
  | linkStart b => exact taken_of_request h linkStart_answered
  | linkStop b => exact taken_of_request h linkStop_answered
  | softReset b =>
    unfold exec execSoftReset at h
    exact taken_of_request h (.answer .softReset _ _ _)
  | fetch b k => exact taken_of_running h (.reading (.of_eq rfl))
  | badRequest b => exact taken_of_running h (.reading (raiseIf_only _ _ _).mono)
  | badCode b =>
    unfold exec execBadCode at h
    exact taken_of_running h (.ite (fun _ => .work .nothing) fun _ => .refusal _ _ _)
  | powerOnReset => cases h; exact .inl (.hardReset _ rfl)
  | pinReset => cases h; exact .inl (.hardReset _ (by simp))
  | supplyReset => cases h; exact .inl (.hardReset _ (by simp))
  | supplyBelowWorkingLevel => exact taken_of_running h (.work (.supply _))
  | supplyAboveHysteresis => exact taken_of_running h (.work (.supply _))
  | superframeBoundary inputs => exact taken_of_running h (.work (.boundary inputs))
  | alignment l input => exact taken_of_running h (.work (.evaluation _ l input))
  | alignmentLoss l input => exact taken_of_running h (.work (.evaluation _ l input))
  | readmissionHoldComplete l input => exact taken_of_running h (.work (.evaluation _ l input))
  | gradeChange l g => cases h; exact .inl (.grade l g)
  | cellArrival port cell =>
    exact taken_of_running h (.ite (fun _ => .work (.cell port cell)) fun _ => .work .nothing)
  | countedStrike i => exact taken_of_running h (.work (.strike i))
  | refractoryEnd i => exact taken_of_running h (.work (.refractoryEnd i))
  | strikeHoldExpiry l => exact taken_of_running h (.work (.strikeHold l))
  | stormDecayExpiry => exact taken_of_running h (.work .stormDecay)
  | overcurrent l => exact taken_of_running h (.work (.overcurrent l))
  | overcurrentEnd l => exact taken_of_running h (.work (.overcurrentEnd l))
  | blankingExpiry l => exact taken_of_running h (.work (.blanking l))
  | driverRetryExpiry l => exact taken_of_running h (.work (.retry l))
  | thermalTrip l => exact taken_of_running h (.work (.thermalTrip l))
  | thermalRelease l => exact taken_of_running h (.work (.thermalRelease l))
  | steeringMessage m => exact taken_of_running h (.work (.steering m))
  | mastReply m => exact taken_of_running h (.work (.reply m))
  | controlCycleEnd => exact taken_of_running h (.work .cycleEnd)
  | holdoverExpiry => exact taken_of_running h (.work .holdoverExpiry)
  | callWindowExpiry => exact taken_of_running h (.work .callWindow)
  | gapExpiry => exact taken_of_running h (.work .gap)
  | recallWaitExpiry => exact taken_of_running h (.work .recallWait)
  | orderIssue => exact taken_of_running h (.work .orderIssue)
  | planningRunEnd => exact taken_of_running h (.work .runEnd)
  | fullSync => exact taken_of_running h (.work .fullSync)
  | orderTakeTruck => exact taken_of_running h (.work .takeTruck)
  | orderTakeMast => exact taken_of_running h (.work .takeMast)
  | orderedCommitCompletion => exact taken_of_running h (.work .completion)
  | endOfHardReset cause strap high => cases h; exact .inl (.condition cause strap high)

/-- No work touches the queue of commands, the role or the reset conditions. -/
theorem Work.only (h : Work s t) : Only workParts s t := by
  cases h with
  | nothing => exact .refl _ _
  | configure body _ => exact .of_eq rfl
  | laneSetup l kind enable _ => exact (changeLane_only _ _ _).mono
  | protectionSetup body => exact (writeGuardConfig_only _ _).mono
  | stage e es _ _ _ => exact .of_eq rfl
  | discard _ _ => exact Only.also (.of_eq rfl) (abandonCommit_only _)
  | commit code _ => exact .of_eq rfl
  | trigger code epoch => exact .ite (fun _ => .of_eq rfl) fun _ => .refl _ _
  | clearCircuit n => exact .of_eq rfl
  | clearLane l => exact .of_eq rfl
  | clearGuards => exact .of_eq rfl
  | release l => exact (releaseDriver_only _ _).mono
  | linkStart _ => exact ((moveToCalling_only s).mono (qs := workParts)).trans (.of_eq rfl)
  | linkStop _ => exact (moveToStandby_only _).mono
  | softReset => exact .of_eq rfl
  | supply x => exact (setSupply_only _ _).mono
  | boundary inputs => exact (completeSuperframe_only _ _).mono
  | evaluation pick l input => exact (evaluateWhen_only _ _ _ _).mono
  | cell port cell => exact (arriveCell_only _ _ _).mono
  | strike i => exact (countStrike_only _ _).mono
  | refractoryEnd i => exact (endRefractory_only _ _).mono
  | strikeHold l => exact (expireStrikeHold_only _ _).mono
  | stormDecay => exact (expireStormDecay_only _).mono
  | overcurrent l => exact (reportOvercurrent_only _ _).mono
  | overcurrentEnd l => exact (endOvercurrent_only _ _).mono
  | blanking l => exact (expireBlanking_only _ _).mono
  | retry l => exact (expireRetry_only _ _).mono
  | thermalTrip l => exact (tripThermal_only _ _).mono
  | thermalRelease l => exact (removeCause_only _ _ _).mono
  | steering m => exact (chooseSteering_only _ _ _).mono
  | reply m => exact (chooseReply_only _ _).mono
  | cycleEnd => exact (judgeCycleEnd_only _).mono
  | holdoverExpiry => exact (judgeHoldover_only _).mono
  | callWindow => exact (expireWindow_only _).mono
  | gap => exact (expireGap_only _).mono
  | recallWait => exact (expireRecall_only _).mono
  | orderIssue => exact (judgeIssue_only _).mono
  | runEnd => exact (judgeRunEnd_only _).mono
  | fullSync => exact (judgeFullSync_only _).mono
  | takeTruck => exact (judgeTakeTruck_only _).mono
  | takeMast => exact (judgeTakeMast_only _).mono
  | completion => exact (judgeCompletion_only _).mono

theorem endCondition_only (s : State) (cause : HardCause) (strap : Role) (high : Bool) :
    Only [.role, .resetting, .counting, .prot, .cause] s (endCondition cause strap high s) :=
  .ite (fun _ => .refl _ _) fun _ => .ite (fun _ => .of_eq rfl) fun _ => .of_eq rfl

/-- The board's doing leaves the queue of commands alone. -/
theorem Board.pending (h : Board s t) : t.pending = s.pending := by
  cases h with
  | hardReset held _ => rfl
  | condition cause strap high => exact (endCondition_only _ _ _ _).pending
  | grade l g => exact (setGrade_only _ _ _).pending

/-- A property that takes no account of the host port and of the queue of commands, and that every piece of work and the
board keep, is kept by every step. -/
theorem step_keeps {I : State → Prop} (hhost : ∀ {s t}, Only (.pending :: hostParts) s t → I s → I t)
    (hboard : ∀ {s t}, Board s t → I s → I t) (hwork : ∀ {s t}, inReset s = false → Work s t → I s → I t)
    (hs : I s) (h : step s = .next t) : I t := by
  unfold step at h
  split at h
  · cases h; exact hs
  · next c q _ =>
    have hq : I (s.withPending q) := hhost (.of_eq rfl) hs
    obtain hb | ⟨-, rfl⟩ | ⟨hr, u, hw, hu⟩ := exec_taken h
    · exact hboard hb hq
    · exact hq
    · exact hhost hu.mono (hwork hr hw hq)

/-! ### No command stops the part -/

/-- A request always answers a next state. -/
theorem request_next (code : Byte) (n : Nat) (body : List Byte) (s : State) (f : State → State) :
    ∃ t : State, request code n body s f = .next t := running_next _ _

/-- Every command answers a next state. -/
theorem exec_next (c : Instr) (s : State) : ∃ t : State, exec c s = .next t := by
  cases c with
  | powerOnReset | pinReset | supplyReset | gradeChange _ _ | endOfHardReset _ _ _ => exact ⟨_, rfl⟩
  | trigger _ => unfold exec execTrigger; exact running_next s _
  | badCode _ => unfold exec execBadCode; exact running_next s _
  | readPlanCircuit _ => unfold exec execReadPlanCircuit; exact request_next _ _ _ s _
  | readPlanLane _ => unfold exec execReadPlanLane; exact request_next _ _ _ s _
  | readCountersCircuit _ => unfold exec execReadCountersCircuit; exact request_next _ _ _ s _
  | readCountersEnd _ => unfold exec execReadCountersEnd; exact request_next _ _ _ s _
  | readCountersLane _ => unfold exec execReadCountersLane; exact request_next _ _ _ s _
  | readCountersProtection _ => unfold exec execReadCountersProtection; exact request_next _ _ _ s _
  | releaseLane _ => unfold exec execReleaseLane; exact request_next _ _ _ s _
  | softReset _ => unfold exec execSoftReset; exact request_next _ _ _ s _
  | identify _ | status _ | events _ | eventMask _ | configure _ | laneSetup _ | protectionSetup _ | readCircuit _
  | stageAdd _ | stageModify _ | stageRetire _ | readChanges _ | discardChanges _ | commit _ | readLane _
  | linkStart _ | linkStop _ => exact request_next _ _ _ s _
  | _ => exact running_next s _

/-- Settles O1: the front of the queue is matched by the step. -/
theorem stepTakesFrontCommand : Obligations.StepTakesFrontCommand :=
  ⟨fun _ _ _ => rfl, fun s h => by unfold step; rw [h]⟩

/-- Settles O2: every row answers a next state, and neither the board's doing, nor any work or its answer touches the
queue. -/
theorem everyCommandAnswersNext : Obligations.EveryCommandAnswersNext := by
  intro c s
  obtain ⟨t, ht⟩ := exec_next c s
  refine ⟨t, ht, ?_⟩
  obtain hb | ⟨-, rfl⟩ | ⟨-, u, hw, hu⟩ := exec_taken ht
  · exact hb.pending
  · rfl
  · exact hu.pending.trans hw.only.pending

end

end Sys2Proof.Frame
end

section
/-! The family of surge and supply protection. Every operation on a cause set writes the protection of one lane with what
that does to the lane (`guardWritten`); what four such writes in turn do is said once (R68, R69, R82). -/

-- One declaration after another: side by side, the proofs of the text need more memory than its check allows.
set_option Elab.async false

namespace Sys2Proof.Guarding

open Sys2Proof Sys2Proof.Machine Sys2Proof.Claims Sys2Proof.Frame

/-! ### One write of a lane's protection -/

/-- The emptiness test of a cause set. -/
theorem noCauses_eq (cs : Causes) : noCauses cs = decide (cs = Causes.none) := by
  cases cs with
  | mk strike storm driver thermal => revert strike storm driver thermal; decide

/-- The move of a lane with its cause set is the one that the statements spell out (R68, R82). -/
theorem quarantineMove_eq_laneAfter (old new : Causes) (lane : Lane) :
    quarantineMove old new lane = laneAfter old new lane := by
  unfold quarantineMove laneAfter
  simp only [noCauses_eq, Lane.released, Lane.into]
  by_cases ho : old = Causes.none <;> by_cases hn : new = Causes.none <;> simp [ho, hn]

section
variable (l : Fin 4) (s : State)

/-- A cause set that is kept moves no lane. -/
@[simp] theorem laneAfter_self (cs : Causes) (lane : Lane) : laneAfter cs cs lane = lane := by
  unfold laneAfter
  by_cases h : cs = Causes.none <;> simp [h]

/-- Writing a cause set after the rest of a lane's protection is one write of that protection. -/
theorem setCauses_putGuard {g : LaneGuard} (hg : g.causes = (guardOf s l).causes) (new : Causes) :
    setCauses l new (putGuard l g s) = guardWritten l { g with causes := new } s := by
  have hget : guardOf (putGuard l g s) l = g := by simp [guardOf]
  have hold : (s.prot.guards.get l).causes = g.causes := hg.symm
  unfold setCauses guardWritten changeLane
  simp only [hget, putGuard_lanes, quarantineMove_eq_laneAfter, hold]
  have hput : putGuard l { g with causes := new } (putGuard l g s) = putGuard l { g with causes := new } s := by
    have hset : (s.prot.guards.set l g).set l { g with causes := new } = s.prot.guards.set l { g with causes := new } :=
      PerLane.ext_get fun k => by simp only [PerLane.get_set]; split <;> rfl
    simp only [putGuard, hset]
  rw [hput]
  by_cases hst : (laneAfter g.causes new (s.lanes.get l)).state = (s.lanes.get l).state
  · simp [hst, putGuard]
  · simp [hst, putGuard]

/-- Writing a cause set is a write of the lane's protection. -/
theorem setCauses_eq (new : Causes) : setCauses l new s = guardWritten l { guardOf s l with causes := new } s := by
  have h := setCauses_putGuard l s (g := guardOf s l) rfl new
  have hself : putGuard l (guardOf s l) s = s := by simp [putGuard, guardOf]
  rwa [hself] at h

/-- A write of what stands there already changes nothing. -/
theorem guardWritten_of_held {g : LaneGuard} (h : guardOf s l = g) : guardWritten l g s = s := by
  subst h; simp [guardWritten, guardOf]

/-- A flag that is set before a write is as well set after it. -/
theorem guardWritten_raise (g : LaneGuard) (f : Flag) : guardWritten l g (raise f s) = raise f (guardWritten l g s) := by
  by_cases h : (laneAfter (s.prot.guards.get l).causes g.causes (s.lanes.get l)).state = (s.lanes.get l).state
  · simp [guardWritten, h, raise]
  · simp [guardWritten, h, raise, BitVec.or_assoc, BitVec.or_comm (flagWord .lane)]

theorem applyCause_eq (c : Cause) :
    applyCause c l s = guardWritten l { guardOf s l with causes := putCause c true (guardOf s l).causes } s :=
  setCauses_eq _ _ _

theorem removeCause_eq (c : Cause) :
    removeCause c l s = guardWritten l { guardOf s l with causes := putCause c false (guardOf s l).causes } s :=
  setCauses_eq _ _ _

/-- A cause applied after another write of the lane's protection. -/
theorem applyCause_putGuard (c : Cause) {g : LaneGuard} (hg : g.causes = (guardOf s l).causes) :
    applyCause c l (putGuard l g s) = guardWritten l { g with causes := putCause c true g.causes } s := by
  unfold applyCause
  rw [setCauses_putGuard l s hg]
  simp [guardOf]

theorem removeCause_putGuard (c : Cause) {g : LaneGuard} (hg : g.causes = (guardOf s l).causes) :
    removeCause c l (putGuard l g s) = guardWritten l { g with causes := putCause c false g.causes } s := by
  unfold removeCause
  rw [setCauses_putGuard l s hg]
  simp [guardOf]

/-! ### The fields that a write leaves and writes -/

variable (g : LaneGuard)

@[simp] theorem guardWritten_prot : (guardWritten l g s).prot = { s.prot with guards := s.prot.guards.set l g } := by
  unfold guardWritten
  dsimp only
  split <;> rfl

@[simp] theorem guardWritten_lanes :
    (guardWritten l g s).lanes =
      s.lanes.set l (laneAfter (s.prot.guards.get l).causes g.causes (s.lanes.get l)) := by
  unfold guardWritten
  dsimp only
  split <;> rfl

theorem guardWritten_only : Only [.lanes, .prot, .flags] s (guardWritten l g s) := by
  unfold guardWritten
  dsimp only
  split
  · exact .of_eq rfl
  · exact .of_eq rfl

/-- LANE is set by a write exactly where the lane's state changes (R69). -/
theorem flagSet_guardWritten (f : Flag) :
    flagSet f (guardWritten l g s) = (flagSet f s || (decide (f = .lane) &&
      decide ((laneAfter (s.prot.guards.get l).causes g.causes (s.lanes.get l)).state ≠ (s.lanes.get l).state))) := by
  unfold guardWritten
  dsimp only
  split
  · next h => rw [flagSet_raise]; simp [h, flagSet]
  · next h => simp [h, flagSet]

end

/-! ### Writes of several lanes in turn -/

/-- Of the lanes listed, `t` holds the protection given, each lane has followed its cause set, and LANE is set where a
lane's state changed; beside that nothing changed. -/
structure Followed (ls : List (Fin 4)) (gs : Fin 4 → LaneGuard) (s t : State) : Prop where
  lanes : ∀ k, t.lanes.get k =
    if k ∈ ls then laneAfter (s.prot.guards.get k).causes (gs k).causes (s.lanes.get k) else s.lanes.get k
  guards : ∀ k, t.prot.guards.get k = if k ∈ ls then gs k else s.prot.guards.get k
  prot : t.prot = { s.prot with guards := t.prot.guards }
  flags : ∀ f, flagSet f t = (flagSet f s || (decide (f = .lane) &&
    decide (∃ k ∈ ls, (t.lanes.get k).state ≠ (s.lanes.get k).state)))
  frame : Only [.lanes, .prot, .flags] s t

/-- The four lanes, the one written last in front. -/
def allLanes : List (Fin 4) := [3, 2, 1, 0]

theorem mem_allLanes (l : Fin 4) : l ∈ allLanes := by revert l; decide

section
variable {ls : List (Fin 4)} {gs : Fin 4 → LaneGuard} {s t : State}

theorem Followed.nil (gs : Fin 4 → LaneGuard) (s : State) : Followed [] gs s s where
  lanes := by simp
  guards := by simp
  prot := rfl
  flags := by simp
  frame := .refl _ _

/-- One more lane follows. -/
theorem Followed.cons (h : Followed ls gs s t) {l : Fin 4} (hl : l ∉ ls) :
    Followed (l :: ls) gs s (guardWritten l (gs l) t) := by
  have hlane : t.lanes.get l = s.lanes.get l := by rw [h.lanes, if_neg hl]
  have hguard : t.prot.guards.get l = s.prot.guards.get l := by rw [h.guards, if_neg hl]
  have lanes : ∀ k, (guardWritten l (gs l) t).lanes.get k =
      if k = l then laneAfter (s.prot.guards.get l).causes (gs l).causes (s.lanes.get l) else t.lanes.get k := by
    intro k
    rw [guardWritten_lanes, PerLane.get_set, hlane, hguard]
  refine ⟨fun k => ?_, fun k => ?_, ?_, fun f => ?_, h.frame.trans (guardWritten_only _ _ _)⟩
  · rw [lanes, h.lanes]
    by_cases hk : k = l
    · subst hk; simp
    · simp [hk]
  · rw [guardWritten_prot, PerLane.get_set, h.guards]
    by_cases hk : k = l
    · subst hk; simp
    · simp [hk]
  · rw [guardWritten_prot, h.prot]
  · have hne : ∀ k ∈ ls, k ≠ l := fun k hk e => hl (e ▸ hk)
    have hrest : (∃ k ∈ ls, ((guardWritten l (gs l) t).lanes.get k).state ≠ (s.lanes.get k).state) ↔
        ∃ k ∈ ls, (t.lanes.get k).state ≠ (s.lanes.get k).state := by
      refine exists_congr fun k => and_congr_right fun hk => ?_
      rw [lanes, if_neg (hne k hk)]
    rw [flagSet_guardWritten, h.flags, hlane, hguard]
    simp only [List.mem_cons, exists_eq_or_imp, hrest, lanes l, if_true, Bool.decide_or, Bool.and_or_distrib_left,
      Bool.or_assoc, Bool.or_comm (decide (f = .lane) && decide (∃ k ∈ ls, _))]

/-- An operation that writes, lane by lane, the protection given does what is said of such writes. -/
theorem followed_onLanes {pick : Fin 4 → Bool} {f : Fin 4 → State → State}
    (hf : ∀ l t, t.prot.guards.get l = s.prot.guards.get l → t.prot = { s.prot with guards := t.prot.guards } →
      (if pick l then f l t else t) = guardWritten l (gs l) t) : Followed allLanes gs s (onLanes pick f s) := by
  have step : ∀ {ls t}, Followed ls gs s t → ∀ l, l ∉ ls →
      Followed (l :: ls) gs s (if pick l then f l t else t) := by
    intro ls t h l hl
    rw [hf l t (by rw [h.guards, if_neg hl]) h.prot]
    exact h.cons hl
  rw [onLanes_eq]
  exact step (step (step (step (.nil gs s) 0 (by simp)) 1 (by simp)) 2 (by simp)) 3 (by simp)

section
variable (h : Followed allLanes gs s t)
include h

theorem Followed.lane (k : Fin 4) :
    t.lanes.get k = laneAfter (s.prot.guards.get k).causes (gs k).causes (s.lanes.get k) := by
  rw [h.lanes, if_pos (mem_allLanes k)]

theorem Followed.guard (k : Fin 4) : t.prot.guards.get k = gs k := by
  rw [h.guards, if_pos (mem_allLanes k)]

theorem Followed.flag (f : Flag) : flagSet f t = (flagSet f s || (decide (f = .lane) &&
    decide (∃ k, (t.lanes.get k).state ≠ (s.lanes.get k).state))) := by
  rw [h.flags]
  simp only [mem_allLanes, true_and]

end

end

/-! ### The operations on four lanes -/

section
variable (s : State)

/-- Applying STORM to the isolated lanes, or removing it from all, as a posture turns (R85, R86). -/
theorem followed_setPosture (on : Bool) :
    Followed allLanes (fun l => { s.prot.guards.get l with causes := { (s.prot.guards.get l).causes with
        storm := on && ((s.prot.guards.get l).causes.storm || s.prot.config.isolate.get l) } })
      (raise .storm { s with prot := { s.prot with stormOn := on } }) (setPosture on s) := by
  unfold setPosture
  cases on with
  | true =>
    refine followed_onLanes fun l t hg hp => ?_
    have hg : guardOf t l = s.prot.guards.get l := hg
    change (if s.prot.config.isolate.get l = true then applyCause .storm l t else t) = _
    by_cases hi : s.prot.config.isolate.get l = true
    · rw [if_pos hi, applyCause_eq, hg]
      simp [putCause, hi]
    · rw [if_neg hi]
      simp only [Bool.not_eq_true] at hi
      simp only [hi, Bool.or_false, Bool.true_and]
      exact (guardWritten_of_held l t hg).symm
  | false =>
    refine followed_onLanes fun l t hg hp => ?_
    have hg : guardOf t l = s.prot.guards.get l := hg
    simp [removeCause_eq, hg, putCause]

/-- STRIKE and its hold on the lanes of a group mask (R79). -/
theorem followed_strikeLanes (mask : Fin 4 → Bool) :
    Followed allLanes (fun l => { s.prot.guards.get l with
        strikeHold := if mask l then some (Config.perTenMs * s.prot.config.strikeHold) else (s.prot.guards.get l).strikeHold
        causes := { (s.prot.guards.get l).causes with strike := (s.prot.guards.get l).causes.strike || mask l } })
      s (onLanes mask strikeLane s) := by
  refine followed_onLanes fun l t hg hp => ?_
  have hcfg : t.prot.config = s.prot.config := by rw [hp]
  have hg : guardOf t l = s.prot.guards.get l := hg
  by_cases hm : mask l = true
  · simp only [hm, if_true, strikeLane, Bool.or_true]
    rw [applyCause_putGuard l t .strike (g := { guardOf t l with strikeHold := some _ }) rfl, hg, hcfg]
    rfl
  · simp only [Bool.not_eq_true] at hm
    simp only [hm, Bool.false_eq_true, if_false, Bool.or_false]
    exact (guardWritten_of_held l t hg).symm

/-- The storm-isolate flags written over the old ones (R86). -/
theorem followed_isolateLanes (old new : PerLane Bool) :
    Followed allLanes (fun l => { s.prot.guards.get l with causes := { (s.prot.guards.get l).causes with
        storm := if s.prot.stormOn ∧ old.get l ≠ new.get l then new.get l else (s.prot.guards.get l).causes.storm } })
      s (onLanes (fun _ => true) (fun l => isolateLane (old.get l) (new.get l) l) s) := by
  refine followed_onLanes fun l t hg hp => ?_
  have hon : t.prot.stormOn = s.prot.stormOn := by rw [hp]
  have hg : guardOf t l = s.prot.guards.get l := hg
  rw [if_pos rfl]
  unfold isolateLane
  rw [hon, applyCause_eq, removeCause_eq, hg]
  by_cases hs : s.prot.stormOn = true ∧ old.get l ≠ new.get l
  · have hdo : ¬ (!s.prot.stormOn || decide (old.get l = new.get l)) = true := by simp [hs.1, hs.2]
    rw [if_pos hs, if_neg hdo]
    cases new.get l <;> rfl
  · have hskip : (!s.prot.stormOn || decide (old.get l = new.get l)) = true := by
      simpa [Decidable.imp_iff_not_or] using hs
    rw [if_pos hskip, if_neg hs]
    exact (guardWritten_of_held l t hg).symm

end

end Sys2Proof.Guarding
end

section
/-! The statements of surge and supply protection (R77 to R92, R189). -/

-- One declaration after another: side by side, the proofs of the text need more memory than its check allows.
set_option Elab.async false

namespace Sys2Proof.Guarding

open Sys2Proof Sys2Proof.Machine Sys2Proof.Claims Sys2Proof.Frame

/-! ### Growth of a cause set over several writes -/

/-- The cause sets of a lane only fill up. -/
structure Grows (a b : Causes) : Prop where
  keeps : a ≠ Causes.none → b ≠ Causes.none

theorem Grows.of_fields {a b : Causes} (hstrike : a.strike = true → b.strike = true)
    (hstorm : a.storm = true → b.storm = true) (hdriver : a.driver = true → b.driver = true)
    (hthermal : a.thermal = true → b.thermal = true) : Grows a b where
  keeps hne h := hne (by
    subst h
    cases a
    simp_all [Causes.none])

theorem laneAfter_trans {a b c : Causes} (hab : Grows a b) (hbc : Grows b c) (lane : Lane) :
    laneAfter b c (laneAfter a b lane) = laneAfter a c lane := by
  have h1 := hab.keeps
  have h2 := hbc.keeps
  unfold laneAfter
  by_cases ha : a = Causes.none <;> by_cases hb : b = Causes.none <;> simp_all

theorem laneAfter_state_trans {a b c : Causes} (hab : Grows a b) (hbc : Grows b c) (lane : Lane) :
    (laneAfter a c lane).state ≠ lane.state ↔
      (laneAfter a b lane).state ≠ lane.state ∨ (laneAfter a c lane).state ≠ (laneAfter a b lane).state := by
  have h1 := hab.keeps
  have h2 := hbc.keeps
  unfold laneAfter
  by_cases ha : a = Causes.none <;> by_cases hb : b = Causes.none <;> simp_all

section
variable {gs gs' : Fin 4 → LaneGuard} {s m t : State}

/-- Protection that is kept moves no lane. -/
theorem Followed.same (h : ∀ l, gs l = s.prot.guards.get l) : Followed allLanes gs s s where
  lanes k := by simp [h]
  guards k := by simp [h]
  prot := rfl
  flags f := by simp
  frame := .refl _ _

/-- Two writes of all lanes in turn, the cause sets only filling up, are one. -/
theorem Followed.trans (h : Followed allLanes gs s m) (h' : Followed allLanes gs' m t)
    (hab : ∀ k, Grows (s.prot.guards.get k).causes (gs k).causes) (hbc : ∀ k, Grows (gs k).causes (gs' k).causes) :
    Followed allLanes gs' s t := by
  have hlane : ∀ k, t.lanes.get k = laneAfter (s.prot.guards.get k).causes (gs' k).causes (s.lanes.get k) := by
    intro k
    rw [h'.lane, h.lane, h.guard, laneAfter_trans (hab k) (hbc k)]
  refine ⟨fun k => ?_, fun k => ?_, ?_, fun f => ?_, h.frame.trans h'.frame⟩
  · rw [hlane, if_pos (mem_allLanes k)]
  · rw [h'.guard, if_pos (mem_allLanes k)]
  · rw [h'.prot, h.prot]
  · have hstate : (∃ k, (t.lanes.get k).state ≠ (s.lanes.get k).state) ↔
        (∃ k, (m.lanes.get k).state ≠ (s.lanes.get k).state) ∨ ∃ k, (t.lanes.get k).state ≠ (m.lanes.get k).state := by
      rw [← exists_or]
      refine exists_congr fun k => ?_
      rw [hlane, h.lane]
      exact laneAfter_state_trans (hab k) (hbc k) _
    rw [h'.flag, h.flag]
    simp only [mem_allLanes, true_and, hstate, Bool.decide_or, Bool.and_or_distrib_left, Bool.or_assoc]

/-- Writes of all lanes, after other protection was written, are what the statements call following. -/
theorem Followed.lanesFollow (h : Followed allLanes gs m t) (hm : Only [.prot, .flags] s m)
    (hc : ∀ k, (m.prot.guards.get k).causes = (s.prot.guards.get k).causes)
    (hf : flagSet .lane m = flagSet .lane s) : LanesFollow s t := by
  have hl : m.lanes = s.lanes := hm.lanes
  refine ⟨fun k => ?_, ?_, ?_⟩
  · rw [h.lane, h.guard, hc, hl]
  · rw [h.flag, hf, hl]
    simp
  · exact ((hm.mono (qs := [.lanes, .prot, .flags, .held])).also h.frame).eq_merge

end

/-! ### Timers and levels -/

theorem timerDue_iff (t : Option Nat) : timerDue t = true ↔ t = some 0 := by simp [timerDue]

theorem satHit_one (limit old : Nat) : satHit limit old 1 = decide (old + 1 = limit) := by
  unfold satHit
  rw [Bool.eq_iff_iff]
  simp only [Bool.and_eq_true, decide_eq_true_eq]
  omega

section
variable (l : Fin 4) (s : State)

theorem expireStrikeHold_eq : expireStrikeHold l s =
    if (guardOf s l).strikeHold = some 0 then
      guardWritten l { guardOf s l with strikeHold := none, causes := { (guardOf s l).causes with strike := false } } s
    else s := by
  unfold expireStrikeHold
  simp only [timerDue_iff]
  rw [removeCause_putGuard l s .strike (g := { guardOf s l with strikeHold := none }) rfl]
  rfl

theorem releaseDriver_eq : releaseDriver l s =
    guardWritten l { guardOf s l with retry := none, causes := { (guardOf s l).causes with driver := false } } s := by
  unfold releaseDriver
  rw [removeCause_putGuard l s .driver (g := { guardOf s l with retry := none }) rfl]
  rfl

theorem expireRetry_eq : expireRetry l s =
    if (guardOf s l).retry = some 0 then
      guardWritten l { guardOf s l with retry := none, causes := { (guardOf s l).causes with driver := false } } s
    else s := by
  unfold expireRetry
  simp only [timerDue_iff, releaseDriver_eq]

theorem tripThermal_eq : tripThermal l s =
    guardWritten l { guardOf s l with causes := { (guardOf s l).causes with thermal := true } } (raise .driver s) :=
  applyCause_eq l (raise .driver s) .thermal

theorem applyCause_raise (c : Cause) (f : Flag) : applyCause c l (raise f s) = raise f (applyCause c l s) := by
  rw [applyCause_eq, applyCause_eq, guardWritten_raise]; rfl

theorem applyCause_raiseIf (c : Cause) (b : Bool) (f : Flag) :
    applyCause c l (raiseIf b f s) = raiseIf b f (applyCause c l s) := by
  cases b
  · rfl
  · exact applyCause_raise l s c f

theorem raise_raiseIf (b : Bool) (f f' : Flag) : raise f (raiseIf b f' s) = raiseIf b f' (raise f s) := by
  cases b
  · rfl
  · simp [raise, BitVec.or_assoc, BitVec.or_comm (flagWord f)]

/-- A driver fault: one write of the lane's protection, with DRIVER set and COUNTER_SAT where the count comes to its limit
(R90). -/
theorem faultDriver_eq : faultDriver l s =
    raiseIf (decide ((guardOf s l).faults + 1 = 255)) .counterSat (guardWritten l
      { guardOf s l with
        overcurrent := false, blanking := none, faults := min 255 ((guardOf s l).faults + 1)
        retry := if s.prot.config.autoretry then some (80 * s.prot.config.driverRetry) else (guardOf s l).retry
        causes := { (guardOf s l).causes with driver := true } } (raise .driver s)) := by
  unfold faultDriver
  rw [applyCause_raise, applyCause_raiseIf, applyCause_putGuard l s .driver (g := { (guardOf s l).stopped with faults := _, retry := _ })
    rfl, satHit_one, raise_raiseIf, guardWritten_raise]
  rfl

theorem driverState_driving_iff : driverState s l = .driving ↔
    ((s.lanes.get l).kind = .copper ∧ (s.lanes.get l).sending = true ∧ (guardOf s l).causes.driver = false) ∧
      ((guardOf s l).overcurrent = false ∨ (guardOf s l).blanking = none) := by
  unfold driverState
  dsimp only
  split
  · next h => simp [h]
  · next h =>
    split
    · next hd => simp [hd]
    · next hd =>
      split
      · next hs => simp [show (s.lanes.get l).sending = false by simpa using hs]
      · next hs =>
        split
        · next ho =>
          simp only [Bool.and_eq_true, Option.isSome_iff_ne_none] at ho
          simp [ho]
        · next ho =>
          simp only [Bool.and_eq_true, Option.isSome_iff_ne_none, not_and_or, not_not, Bool.not_eq_true] at ho
          simp_all

theorem driverState_limiting_iff : driverState s l = .limiting ↔
    ((s.lanes.get l).kind = .copper ∧ (s.lanes.get l).sending = true ∧ (guardOf s l).causes.driver = false) ∧
      (guardOf s l).overcurrent = true ∧ (guardOf s l).blanking ≠ none := by
  unfold driverState
  dsimp only
  split
  · next h => simp [h]
  · next h =>
    split
    · next hd => simp [hd]
    · next hd =>
      split
      · next hs => simp [show (s.lanes.get l).sending = false by simpa using hs]
      · next hs =>
        split
        · next ho =>
          simp only [Bool.and_eq_true, Option.isSome_iff_ne_none] at ho
          simp_all
        · next ho =>
          simp only [Bool.and_eq_true, Option.isSome_iff_ne_none] at ho
          simp [ho]

end

/-- Settles O43: each command by the state of the driver. -/
theorem driverFaults : Obligations.DriverFaults := by
  intro s l hs g on put
  have hrun (f : State → State) : running s f = .next (f s) := running_of_runs hs f
  have driving : driverState s l = .driving ↔ on ∧ (g.overcurrent = false ∨ g.blanking = none) :=
    driverState_driving_iff l s
  have limiting : driverState s l = .limiting ↔ on ∧ g.overcurrent = true ∧ g.blanking ≠ none :=
    driverState_limiting_iff l s
  have reported : exec (.overcurrent l) s = .next (if driverState s l = .driving then
      put { g with overcurrent := true, blanking := some (4 * 2 ^ s.prot.config.blanking) } else s) := hrun _
  have ends : exec (.overcurrentEnd l) s = .next (if driverState s l = .limiting then
      put { g with overcurrent := false, blanking := none } else s) := hrun _
  have expires : exec (.blankingExpiry l) s =
      .next (if g.blanking = some 0 ∧ driverState s l = .limiting then faultDriver l s else s) := by
    refine (hrun _).trans ?_
    simp only [expireBlanking, Bool.and_eq_true, timerDue_iff, decide_eq_true_eq]
    rfl
  refine ⟨fun h1 h2 => ?_, fun h => ?_, fun h1 h2 h3 => ⟨?_, ?_⟩, fun h => ?_, fun h1 h2 h3 => ⟨_, rfl, ?_⟩, fun h => ?_⟩
  · rw [reported, if_pos (driving.2 ⟨h1, .inl h2⟩)]
  · rw [reported, if_neg fun hd => h (driving.1 hd).1]
  · rw [reported, if_neg fun hd => ?_]
    rcases (driving.1 hd).2 with h | h
    · simp [h] at h2
    · exact h3 h
  · rw [ends, if_pos (limiting.2 ⟨h1, h2, h3⟩)]
  · rw [ends, if_neg fun hd => ?_]
    obtain ⟨h1, h2, h3⟩ := limiting.1 hd
    rcases h with h | h | h
    · exact h h1
    · simp [h] at h2
    · exact h3 h
  · rw [expires, if_pos ⟨h3, limiting.2 ⟨h1, h2, by simp [h3]⟩⟩, faultDriver_eq]
    unfold raiseIf
    simp only [decide_eq_true_eq, Nat.reduceEqDiff]
    rfl
  · rw [expires, if_neg fun hd => ?_]
    obtain ⟨h0, hlim⟩ := hd
    obtain ⟨h1, h2, h3⟩ := limiting.1 hlim
    rcases h with h | h | h
    · exact h h1
    · simp [h] at h2
    · exact h h0

/-- The number of a lane as its byte gives it. -/
theorem laneOf_byte (l : Fin 4) : laneOf (BitVec.ofNat 8 l.val).toNat = some l := by revert l; decide

theorem laneOf_of_ge {n : Nat} (h : 4 ≤ n) : laneOf n = none := by unfold laneOf; rw [dif_neg (by omega)]

/-- Settles O44: each command is one write of the lane's protection. -/
theorem thermalAndReleaseLane : Obligations.ThermalAndReleaseLane := by
  intro s l b hs g
  have release : exec (.releaseLane [b]) s = .next (match laneOf b.toNat with
      | some l => releaseLane l s
      | none => respond 0x22 .badField [] s) := by
    unfold exec execReleaseLane
    exact request_of_length hs rfl _
  refine ⟨(running_of_runs hs _).trans (by rw [tripThermal_eq]; rfl),
    (running_of_runs hs _).trans (by rw [removeCause_eq]; rfl), fun h => ?_, fun hb hd => ?_, fun hb hd => ?_⟩
  · rw [release, laneOf_of_ge h]
  · rw [release, hb, laneOf_byte]
    have hd : (guardOf s l).causes.driver = false := hd
    simp [releaseLane, hd]
  · rw [release, hb, laneOf_byte]
    have hd : (guardOf s l).causes.driver = true := hd
    have hcauses : (guardOf (releaseDriver l s) l).causes = { g.causes with driver := false } := by
      rw [releaseDriver_eq]; simp [guardOf, g]
    simp only [releaseLane, hd, if_true, hcauses]
    rw [releaseDriver_eq]
    simp only [causesCode, markCode, Bool.false_eq_true, if_false, mul_zero, add_zero, mul_ite, mul_one]
    rfl

end Sys2Proof.Guarding
end

section
/-! The storm level and the strikes (R78 to R80, R84 to R86). -/

-- One declaration after another: side by side, the proofs of the text need more memory than its check allows.
set_option Elab.async false

namespace Sys2Proof.Guarding

open Sys2Proof Sys2Proof.Machine Sys2Proof.Claims Sys2Proof.Frame

section
variable {gs : Fin 4 → LaneGuard} {s m t : State}

/-- Writes of all lanes set no flag but LANE beside those set before. -/
theorem Followed.raisesOnly (h : Followed allLanes gs m t) {fs : List Flag} (hm : RaisesOnly fs s m) (hl : .lane ∈ fs) :
    RaisesOnly fs s t := by
  intro f
  obtain ⟨hkept, hnew⟩ := hm f
  rw [h.flag]
  refine ⟨fun hf => by simp [hkept hf], fun hf => ?_⟩
  have hne : f ≠ .lane := fun e => hf (e ▸ hl)
  simp [hnew hf, hne]

theorem Followed.flag_of_ne (h : Followed allLanes gs m t) {f : Flag} (hf : f ≠ .lane) : flagSet f t = flagSet f m := by
  rw [h.flag]; simp [hf]

/-- The guards may be described in another way. -/
theorem Followed.congr (h : Followed allLanes gs s t) {gs' : Fin 4 → LaneGuard} (he : ∀ l, gs l = gs' l) :
    Followed allLanes gs' s t := funext he ▸ h

end

/-- The state in which level and posture are written, before the lanes follow. -/
def stormWritten (level : Nat) (s : State) : State :=
  let on := postureAfter s.prot.stormOn level
  raiseIf (decide (on ≠ s.prot.stormOn)) .storm { s with prot := { s.prot with stormLevel := level, stormOn := on } }

/-- The protection of a lane after the posture was judged at a level. -/
def guardAfterStorm (level : Nat) (s : State) (l : Fin 4) : LaneGuard :=
  let g := s.prot.guards.get l
  let on := postureAfter s.prot.stormOn level
  { g with causes := { g.causes with storm :=
    if on = s.prot.stormOn then g.causes.storm else on && (g.causes.storm || s.prot.config.isolate.get l) } }

theorem followed_setStormLevel (level : Nat) (s : State) :
    Followed allLanes (guardAfterStorm level s) (stormWritten level s) (setStormLevel level s) := by
  unfold setStormLevel stormWritten guardAfterStorm
  dsimp only
  by_cases h : postureAfter s.prot.stormOn level = s.prot.stormOn
  · simp only [h, if_true, ne_eq, not_true_eq_false, decide_false, raiseIf_false]
    exact .same fun l => rfl
  · simp only [h, if_false, ne_eq, not_false_eq_true, decide_true, raiseIf_true]
    exact followed_setPosture { s with prot := { s.prot with stormLevel := level } } _

theorem stormWritten_prot (level : Nat) (s : State) : (stormWritten level s).prot =
    { s.prot with stormLevel := level, stormOn := postureAfter s.prot.stormOn level } := by
  simp [stormWritten]

theorem stormWritten_only (level : Nat) (s : State) : Only [.prot, .flags] s (stormWritten level s) :=
  (Only.of_eq (ps := [.prot, .flags]) (t := { s with prot := _ }) rfl).also (raiseIf_only _ _ _)

theorem flagSet_stormWritten (level : Nat) (s : State) (f : Flag) : flagSet f (stormWritten level s) =
    (flagSet f s || (decide (postureAfter s.prot.stormOn level ≠ s.prot.stormOn) && decide (f = .storm))) := by
  unfold stormWritten
  rw [flagSet_raiseIf]
  rfl

/-- The posture as a level falls by 1 from one that it allows (R85). -/
theorem postureAfter_decay {on : Bool} {level : Nat} (h : on = false → level ≤ 7) :
    postureAfter on (level - 1) = (on && decide (level - 1 ≠ 0)) := by
  cases on with
  | true => rfl
  | false =>
    have := h rfl
    have : ¬ 8 ≤ level - 1 := by omega
    simp [postureAfter, Config.stormOn, this]

/-- The posture as a strike raises the level (R85). -/
theorem postureAfter_strike (on : Bool) (level : Nat) :
    postureAfter on (min Config.stormMax (level + Config.strikeWeight)) = (on || decide (8 ≤ level + 4)) := by
  simp only [postureAfter, Config.stormMax, Config.strikeWeight, Config.stormOn]
  cases on <;> simp

section
variable (s : State)

/-- The state in which the decay timer and the level are written at the expiry of the timer. -/
def decayed (s : State) : State :=
  { s with prot := { s.prot with
    stormDecay := if s.prot.stormLevel - 1 = 0 then none else some (8000 * s.prot.config.stormDecay) } }

theorem expireStormDecay_eq :
    expireStormDecay s = if s.prot.stormDecay = some 0 then setStormLevel (s.prot.stormLevel - 1) (decayed s) else s := by
  unfold expireStormDecay decayed
  simp only [timerDue_iff]
  split
  · split <;> rfl
  · rfl

/-- A storm decay that expires, in the words of the statement. -/
theorem decay_effects (h : StormConsistent s) (hdue : s.prot.stormDecay = some 0) :
    ∃ t : State, expireStormDecay s = t ∧ LanesFollow s t ∧ t.host.held = s.host.held ∧
      t.prot.stormLevel + 1 = s.prot.stormLevel ∧
      t.prot.stormDecay = (if t.prot.stormLevel = 0 then none else some (8000 * s.prot.config.stormDecay)) ∧
      t.prot.stormOn = (s.prot.stormOn && decide (t.prot.stormLevel ≠ 0)) ∧
      (∀ k : Fin 4, t.prot.guards.get k = { s.prot.guards.get k with
        causes := { (s.prot.guards.get k).causes with
          storm := (s.prot.guards.get k).causes.storm && !(s.prot.stormOn && !t.prot.stormOn) } }) ∧
      t.prot.inputs = s.prot.inputs ∧ t.prot.config = s.prot.config ∧ t.prot.supply = s.prot.supply ∧
      flagSet .storm t = (flagSet .storm s || (s.prot.stormOn && !t.prot.stormOn)) ∧
      RaisesOnly [.storm, .lane] s t := by
  obtain ⟨-, hon, hoff, hrun⟩ := h
  have hpos : 1 ≤ s.prot.stormLevel := by
    rcases Nat.eq_zero_or_pos s.prot.stormLevel with h0 | h0
    · rw [hrun.1 h0] at hdue; cases hdue
    · exact h0
  set level := s.prot.stormLevel - 1 with hlevel
  have hposture : postureAfter s.prot.stormOn level = (s.prot.stormOn && decide (level ≠ 0)) := postureAfter_decay hoff
  have hd : expireStormDecay s = setStormLevel level (decayed s) := by rw [expireStormDecay_eq, if_pos hdue]
  have hf := followed_setStormLevel level (decayed s)
  rw [← hd] at hf
  have hflag (f : Flag) : flagSet f (stormWritten level (decayed s)) =
      (flagSet f s || (decide (f = .storm) && (s.prot.stormOn && !(s.prot.stormOn && decide (level ≠ 0))))) := by
    rw [flagSet_stormWritten]
    change (flagSet f s || _ && _) = _
    change (flagSet f s || decide (postureAfter s.prot.stormOn level ≠ s.prot.stormOn) && _) = _
    rw [hposture]
    cases s.prot.stormOn <;> cases decide (level ≠ 0) <;> simp
  have hprot := hf.prot
  rw [stormWritten_prot] at hprot
  change (expireStormDecay s).prot = { s.prot with
    stormDecay := if level = 0 then none else some (8000 * s.prot.config.stormDecay), stormLevel := level
    stormOn := postureAfter s.prot.stormOn level, guards := (expireStormDecay s).prot.guards } at hprot
  rw [hposture] at hprot
  have hl : (expireStormDecay s).prot.stormLevel = level := by rw [hprot]
  have ho : (expireStormDecay s).prot.stormOn = (s.prot.stormOn && decide (level ≠ 0)) := by rw [hprot]
  have hfrom : Only [.prot, .flags] s (stormWritten level (decayed s)) :=
    (Only.of_eq (ps := [.prot, .flags]) rfl).trans (stormWritten_only level (decayed s))
  have hguards (k : Fin 4) : (stormWritten level (decayed s)).prot.guards.get k = s.prot.guards.get k := by
    rw [stormWritten_prot]; rfl
  have hheld : (expireStormDecay s).host.held = s.host.held :=
    congrArg (·.host.held) (((hfrom.mono (qs := [.lanes, .prot, .flags])).trans hf.frame).eq_merge)
  refine ⟨_, rfl, hf.lanesFollow hfrom (fun k => by rw [hguards]) (by rw [hflag]; simp), hheld, by omega,
    by rw [hl, hprot], by rw [ho, hl], fun k => ?_, by rw [hprot], by rw [hprot], by rw [hprot], ?_, ?_⟩
  · rw [hf.guard, ho]
    unfold guardAfterStorm
    change ({ s.prot.guards.get k with causes := { (s.prot.guards.get k).causes with
      storm := if postureAfter s.prot.stormOn level = s.prot.stormOn then (s.prot.guards.get k).causes.storm
        else postureAfter s.prot.stormOn level && _ } } : LaneGuard) = _
    rw [hposture]
    cases s.prot.stormOn <;> cases decide (level ≠ 0) <;> simp
  · rw [hf.flag_of_ne (by decide), hflag, ho]; simp
  · refine hf.raisesOnly (fun f => ?_) (by simp)
    rw [hflag]
    refine ⟨fun h => by simp [h], fun h => ?_⟩
    have hne : f ≠ .storm := fun e => h (by simp [e])
    simp [hne]

/-- Settles O42: an expiry by its timer; the storm decay is one judgement of the posture. -/
theorem protectionTimersExpire : Obligations.ProtectionTimersExpire := by
  intro s l hs g
  have hrun (f : State → State) : running s f = .next (f s) := running_of_runs hs f
  refine ⟨(hrun _).trans (by rw [expireStrikeHold_eq]; rfl), (hrun _).trans (by rw [expireRetry_eq]; rfl),
    fun h => (hrun _).trans (by rw [expireStormDecay_eq, if_neg h]), fun h hc => ?_⟩
  obtain ⟨t, ht, heffects⟩ := decay_effects s hc h
  exact ⟨t, (hrun _).trans (congrArg _ ht), heffects⟩

end

/-! ### A counted strike -/

/-- The state in which a counted strike has counted and set its flags. -/
def struck (i : Fin 4) (s : State) : State :=
  raise .strike (raiseIf (satHit Config.countMax8 (s.prot.inputs.get i).count 1) .counterSat
    { s with prot := { s.prot with inputs := s.prot.inputs.set i (s.prot.inputs.get i).counted } })

/-- The decay timer started where the storm level was 0. -/
def decayFrom0 (s : State) : State := if s.prot.stormLevel = 0 then startDecay s else s

/-- The storm level that a strike leaves. -/
def struckLevel (s : State) : Nat := min Config.stormMax (s.prot.stormLevel + Config.strikeWeight)

section
variable (i : Fin 4) (s : State)

theorem decayFrom0_prot : (decayFrom0 s).prot = { s.prot with
    stormDecay := if s.prot.stormLevel = 0 then some (8000 * s.prot.config.stormDecay) else s.prot.stormDecay } := by
  unfold decayFrom0
  split <;> rfl

theorem decayFrom0_only : Only [.prot] s (decayFrom0 s) := .ite (fun _ => .of_eq rfl) (fun _ => .refl _ _)

theorem struck_prot :
    (struck i s).prot = { s.prot with inputs := s.prot.inputs.set i (s.prot.inputs.get i).counted } := by
  simp [struck]

theorem struck_only : Only [.prot, .flags] s (struck i s) :=
  ((Only.of_eq (ps := [.prot, .flags]) (t := { s with prot := _ }) rfl).also (raiseIf_only _ _ _)).also (raise_only _ _)

theorem flagSet_struck (f : Flag) : flagSet f (struck i s) = (flagSet f s || decide (f = .strike) ||
    (decide ((s.prot.inputs.get i).count = 254) && decide (f = .counterSat))) := by
  unfold struck
  rw [flagSet_raise, flagSet_raiseIf, Bool.or_right_comm, satHit_one]
  simp [Config.countMax8, flagSet]

/-- A pulse outside the refractory: the level is judged, and then STRIKE goes to the lanes of the group mask. -/
theorem countStrike_eq (h : (s.prot.inputs.get i).refractory = false) : countStrike i s =
    onLanes (fun l => (s.prot.config.masks.get i).get l) strikeLane
      (setStormLevel (struckLevel s) (decayFrom0 (struck i s))) := by
  have hlevel : struckLevel (struck i s) = struckLevel s := by unfold struckLevel; rw [struck_prot]
  have hdo : countStrike i s = onLanes (fun l => (s.prot.config.masks.get i).get l) strikeLane
      (setStormLevel (struckLevel (struck i s)) (decayFrom0 (struck i s))) := by
    unfold countStrike
    simp only [h, Bool.false_eq_true, if_false]
    rfl
  rw [hdo, hlevel]

end

/-- The protection of a lane after a counted strike, in the words of the statement. -/
def guardStruck (i : Fin 4) (on : Bool) (s : State) (l : Fin 4) : LaneGuard :=
  let masked := (s.prot.config.masks.get i).get l
  let old := s.prot.guards.get l
  { old with
    strikeHold := if masked then some (80 * s.prot.config.strikeHold) else old.strikeHold
    causes := { old.causes with
      strike := old.causes.strike || masked
      storm := old.causes.storm || (!s.prot.stormOn && on && s.prot.config.isolate.get l) } }

/-- The protection block in which a strike has counted, without its lanes. -/
def protStruck (i : Fin 4) (s : State) : Protection :=
  { s.prot with
    inputs := s.prot.inputs.set i (s.prot.inputs.get i).counted
    stormDecay := if s.prot.stormLevel = 0 then some (8000 * s.prot.config.stormDecay) else s.prot.stormDecay
    stormLevel := min 15 (s.prot.stormLevel + 4)
    stormOn := s.prot.stormOn || decide (8 ≤ s.prot.stormLevel + 4) }

section
variable (i : Fin 4) (s : State)

/-- The state from which the lanes follow a strike. -/
def strikeWritten (i : Fin 4) (s : State) : State := stormWritten (struckLevel s) (decayFrom0 (struck i s))

theorem strikeWritten_prot : (strikeWritten i s).prot = protStruck i s := by
  unfold strikeWritten protStruck
  rw [stormWritten_prot, decayFrom0_prot, struck_prot]
  simp only [struckLevel, postureAfter_strike]
  rfl

theorem strikeWritten_only : Only [.prot, .flags] s (strikeWritten i s) :=
  ((struck_only i s).also (decayFrom0_only _)).also (stormWritten_only _ _)

theorem flagSet_strikeWritten (f : Flag) : flagSet f (strikeWritten i s) =
    (flagSet f s || decide (f = .strike) || (decide ((s.prot.inputs.get i).count = 254) && decide (f = .counterSat)) ||
      (decide (f = .storm) && (!s.prot.stormOn && decide (8 ≤ s.prot.stormLevel + 4)))) := by
  have hon : (decayFrom0 (struck i s)).prot.stormOn = s.prot.stormOn := by rw [decayFrom0_prot, struck_prot]
  have hflags : flagSet f (decayFrom0 (struck i s)) = flagSet f (struck i s) :=
    flagSet_congr ((decayFrom0_only _).flags) f
  unfold strikeWritten
  rw [flagSet_stormWritten, hon, hflags, flagSet_struck]
  simp only [struckLevel, postureAfter_strike]
  cases s.prot.stormOn <;> cases decide (8 ≤ s.prot.stormLevel + 4) <;> simp

/-- A counted strike, beside what it counts and judges: each lane follows its cause set (R79, R86). -/
theorem followed_countStrike (h : (s.prot.inputs.get i).refractory = false) :
    Followed allLanes (guardStruck i (protStruck i s).stormOn s) (strikeWritten i s) (countStrike i s) := by
  have hprot := strikeWritten_prot i s
  have hstorm := followed_setStormLevel (struckLevel s) (decayFrom0 (struck i s))
  have hstrike := followed_strikeLanes (setStormLevel (struckLevel s) (decayFrom0 (struck i s)))
    (fun l => (s.prot.config.masks.get i).get l)
  rw [← countStrike_eq i s h] at hstrike
  have hguard (l : Fin 4) : guardAfterStorm (struckLevel s) (decayFrom0 (struck i s)) l =
      { s.prot.guards.get l with causes := { (s.prot.guards.get l).causes with
        storm := (s.prot.guards.get l).causes.storm ||
          (!s.prot.stormOn && (protStruck i s).stormOn && s.prot.config.isolate.get l) } } := by
    unfold guardAfterStorm protStruck
    rw [decayFrom0_prot, struck_prot]
    simp only [struckLevel, postureAfter_strike]
    cases s.prot.stormOn <;> cases decide (8 ≤ s.prot.stormLevel + 4) <;> simp
  have hcfg : (setStormLevel (struckLevel s) (decayFrom0 (struck i s))).prot.config = s.prot.config := by
    have hcfg := congrArg Protection.config hprot
    rw [hstorm.prot]
    exact hcfg
  refine (hstorm.trans hstrike (fun k => ?_) (fun k => ?_)).congr fun l => ?_
  · change Grows ((strikeWritten i s).prot.guards.get k).causes _
    rw [hguard, hprot]
    exact .of_fields id (fun h => by simp only [Bool.or_eq_true]; exact .inl h) id id
  · rw [hstorm.guard]
    exact .of_fields (fun h => by simp only [Bool.or_eq_true]; exact .inl h) id id id
  · rw [hstorm.guard, hguard, hcfg]
    rfl

end

/-- Settles O41: the strike counts, the level is judged, and each lane follows its cause set. -/
theorem strikeEffects : Obligations.StrikeEffects := by
  intro s i hs
  have hrun (f : State → State) : running s f = .next (f s) := running_of_runs hs f
  refine ⟨hrun _, fun h => (hrun _).trans (by simp only [countStrike, h, if_true]), fun h =>
    ⟨_, hrun _, ?_⟩⟩
  have hf := followed_countStrike i s h
  have hprot : (countStrike i s).prot = { protStruck i s with guards := (countStrike i s).prot.guards } := by
    rw [← strikeWritten_prot]; exact hf.prot
  have hfrom := strikeWritten_only i s
  have hguards (k : Fin 4) : (strikeWritten i s).prot.guards.get k = s.prot.guards.get k := by
    rw [strikeWritten_prot]; rfl
  have hflag (f : Flag) (hne : f ≠ .lane) := (hf.flag_of_ne hne).trans (flagSet_strikeWritten i s f)
  have hon : (countStrike i s).prot.stormOn = (protStruck i s).stormOn := by rw [hprot]
  refine ⟨hf.lanesFollow hfrom (fun k => by rw [hguards]) (by rw [flagSet_strikeWritten]; simp),
    congrArg (·.host.held) (((hfrom.mono (qs := [.lanes, .prot, .flags])).trans hf.frame).eq_merge), by rw [hprot]; rfl,
    by rw [hprot]; rfl, by rw [hprot]; rfl, by rw [hprot]; rfl, by rw [hprot]; rfl, by rw [hprot]; rfl,
    fun l => by rw [hf.guard, hon]; rfl, ?_, ?_, ?_, ?_⟩
  · rw [hflag _ (by decide)]; simp
  · rw [hflag _ (by decide), hon]; simp [protStruck]; cases s.prot.stormOn <;> simp
  · rw [hflag _ (by decide)]; simp
  · refine hf.raisesOnly (fun f => ?_) (by simp)
    rw [flagSet_strikeWritten]
    refine ⟨fun h => by simp [h], fun h => ?_⟩
    simp only [List.mem_cons, not_or] at h
    simp [h.1, h.2.1, h.2.2.1]

end Sys2Proof.Guarding
end

section
/-! The two requests that write parameters: CONFIGURE and PROTECTION SETUP (R187, R189). -/

-- One declaration after another: side by side, the proofs of the text need more memory than its check allows.
set_option Elab.async false

namespace Sys2Proof.Configuring

open Sys2Proof Sys2Proof.Machine Sys2Proof.Claims Sys2Proof.Frame Sys2Proof.Guarding

/-! ### Values, marks and lanes as bytes give them -/

theorem written_eq_within {lo hi : Nat} (h : lo ≤ hi) (present : Bool) (v old : Nat) :
    written present lo hi v old = within present lo hi v old := by
  unfold written within clampTo
  split
  · split_ifs <;> omega
  · rfl

theorem wasClamped_eq_outside (present : Bool) (lo hi v : Nat) :
    wasClamped present lo hi v = outside present lo hi v := by
  unfold wasClamped outside clampTo
  rw [← Bool.decide_or]
  congr 2
  apply propext
  split_ifs <;> omega

theorem maskClamped_eq_outside (present : Bool) (b : Byte) : maskClamped present b = outside present 0 15 b.toNat := by
  unfold maskClamped outside
  simp [Nat.lt_iff_add_one_le]

theorem laneSetCode_eq (p : PerLane Bool) : laneSetCode p = lanesNumber p := by
  rcases p with ⟨p0, p1, p2, p3⟩
  revert p0 p1 p2 p3
  decide

section
variable (bs : List Byte) (a b : Byte)

theorem numAt_succ (i n : Nat) : numAt (b :: bs) (i + 1) n = numAt bs i n := rfl

theorem numAt_one : numAt (b :: bs) 0 1 = b.toNat := by simp [numAt, slice, natOfBytes]

theorem numAt_two : numAt (a :: b :: bs) 0 2 = twoBytes a b := by simp [numAt, slice, natOfBytes, twoBytes]

/-- A presence mark of PROTECTION SETUP by its bit in the two presence bytes. -/
theorem presentGuard_eq (i : Nat) :
    presentGuard (a :: b :: bs) i = if i < 8 then b.getLsbD i else a.getLsbD (i - 8) := by
  have hnum : numAt (a :: b :: bs) 0 2 = (a ++ b).toNat := by
    rw [numAt_two, BitVec.toNat_append, ← Nat.shiftLeft_add_eq_or_of_lt b.isLt, Nat.shiftLeft_eq]
    rfl
  unfold presentGuard
  rw [hnum, BitVec.testBit_toNat, BitVec.getLsbD_append]

end

/-! ### CONFIGURE -/

/-- Settles O10: the write is spelled out, and cycles are marked anew only with another C. -/
theorem configureWrites : Obligations.ConfigureWrites := by
  refine ⟨rfl, fun s p c l0 l1 m b g w0 w1 r h0 h1 hs => ?_⟩
  have hexec (t : State) (h : configure [p, c, l0, l1, m, b, g, w0, w1, r, h0, h1] s = t) :
      exec (.configure [p, c, l0, l1, m, b, g, w0, w1, r, h0, h1]) s = .next t :=
    (request_of_length hs rfl _).trans (congrArg _ h)
  have hnew : writtenParams [p, c, l0, l1, m, b, g, w0, w1, r, h0, h1] s.params = {
      c := within (p.getLsbD 7) 2 64 c.toNat s.params.c
      lead := within (p.getLsbD 6) 24 4096 (twoBytes l0 l1) s.params.lead
      missLimit := within (p.getLsbD 5) 1 15 m.toNat s.params.missLimit
      holdoverBase := within (p.getLsbD 4) 1 255 b.toNat s.params.holdoverBase
      holdoverScale := within (p.getLsbD 3) 0 7 g.toNat s.params.holdoverScale
      callWindow := within (p.getLsbD 2) 8 2000 (twoBytes w0 w1) s.params.callWindow
      recallInterval := within (p.getLsbD 1) 0 255 r.toNat s.params.recallInterval
      readmitHold := within (p.getLsbD 0) 8 65535 (twoBytes h0 h1) s.params.readmitHold } := by
    unfold writtenParams
    simp only [written_eq_within (show 2 ≤ 64 by decide), written_eq_within (show 24 ≤ 4096 by decide),
      written_eq_within (show 1 ≤ 15 by decide), written_eq_within (show 1 ≤ 255 by decide),
      written_eq_within (show 0 ≤ 7 by decide), written_eq_within (show 8 ≤ 2000 by decide),
      written_eq_within (show 0 ≤ 255 by decide), written_eq_within (show 8 ≤ 65535 by decide),
      numAt_succ, numAt_one, numAt_two]
    rfl
  have hcode : paramsClamped [p, c, l0, l1, m, b, g, w0, w1, r, h0, h1] = (
      outside (p.getLsbD 7) 2 64 c.toNat || outside (p.getLsbD 6) 24 4096 (twoBytes l0 l1) ||
      outside (p.getLsbD 5) 1 15 m.toNat || outside (p.getLsbD 4) 1 255 b.toNat ||
      outside (p.getLsbD 3) 0 7 g.toNat || outside (p.getLsbD 2) 8 2000 (twoBytes w0 w1) ||
      outside (p.getLsbD 1) 0 255 r.toNat || outside (p.getLsbD 0) 8 65535 (twoBytes h0 h1)) := by
    unfold paramsClamped
    simp only [wasClamped_eq_outside, numAt_succ, numAt_one, numAt_two]
    rfl
  refine ⟨fun hp hl => hexec _ ?_, fun h => ⟨_, hexec _ rfl, ?_⟩⟩
  · have hrefused : timingRefused [p, c, l0, l1, m, b, g, w0, w1, r, h0, h1] s = true := by
      simp only [timingRefused, presentParam, Bool.and_eq_true, Bool.or_eq_true, decide_eq_true_eq]
      exact ⟨hp, hl⟩
    unfold configure
    rw [if_pos hrefused]
    rfl
  · have htaken : ¬ timingRefused [p, c, l0, l1, m, b, g, w0, w1, r, h0, h1] s = true := by
      simp only [timingRefused, presentParam, Bool.and_eq_true, Bool.or_eq_true, decide_eq_true_eq]
      rintro ⟨hp, hl⟩
      rcases h with ⟨h7, h6⟩ | h
      · rcases hp with hp | hp
        · exact absurd (h7.symm.trans hp) (by decide)
        · exact absurd (h6.symm.trans hp) (by decide)
      · exact hl h
    unfold configure
    rw [if_neg htaken]
    dsimp only
    rw [hcode, hnew]
    exact ⟨rfl, rfl, fun hc => if_pos hc, rfl⟩

/-! ### PROTECTION SETUP -/

/-- The protection parameters that a PROTECTION SETUP leaves, in the words of the statement. -/
def guardsSet (p1 p0 sh sd dr ar cl bl m0 m1 m2 m3 iso : Byte) (old : GuardConfig) : GuardConfig where
  strikeHold := within (p1.getLsbD 7) 1 255 sh.toNat old.strikeHold
  stormDecay := within (p1.getLsbD 6) 1 255 sd.toNat old.stormDecay
  driverRetry := within (p1.getLsbD 5) 5 255 dr.toNat old.driverRetry
  autoretry := if p1.getLsbD 4 then decide (ar ≠ 0) else old.autoretry
  currentLimit := within (p1.getLsbD 3) 0 3 cl.toNat old.currentLimit
  blanking := within (p1.getLsbD 2) 0 3 bl.toNat old.blanking
  masks := ⟨if p1.getLsbD 1 then lanesNamed m0 else old.masks.l0, if p1.getLsbD 0 then lanesNamed m1 else old.masks.l1,
    if p0.getLsbD 7 then lanesNamed m2 else old.masks.l2, if p0.getLsbD 6 then lanesNamed m3 else old.masks.l3⟩
  isolate := if p0.getLsbD 5 then lanesNamed iso else old.isolate

section
variable (p1 p0 sh sd dr ar cl bl m0 m1 m2 m3 iso : Byte) (g : GuardConfig)

theorem writtenGuards_eq : writtenGuards [p1, p0, sh, sd, dr, ar, cl, bl, m0, m1, m2, m3, iso] g =
    guardsSet p1 p0 sh sd dr ar cl bl m0 m1 m2 m3 iso g := by
  unfold writtenGuards guardsSet
  simp only [written_eq_within (show 1 ≤ 255 by decide), written_eq_within (show 5 ≤ 255 by decide),
    written_eq_within (show 0 ≤ 3 by decide), presentGuard_eq, numAt_succ, numAt_one]
  rfl

theorem guardsClamped_eq : guardsClamped [p1, p0, sh, sd, dr, ar, cl, bl, m0, m1, m2, m3, iso] =
    (outside (p1.getLsbD 7) 1 255 sh.toNat || outside (p1.getLsbD 6) 1 255 sd.toNat ||
      outside (p1.getLsbD 5) 5 255 dr.toNat || outside (p1.getLsbD 4) 0 1 ar.toNat ||
      outside (p1.getLsbD 3) 0 3 cl.toNat || outside (p1.getLsbD 2) 0 3 bl.toNat ||
      outside (p1.getLsbD 1) 0 15 m0.toNat || outside (p1.getLsbD 0) 0 15 m1.toNat ||
      outside (p0.getLsbD 7) 0 15 m2.toNat || outside (p0.getLsbD 6) 0 15 m3.toNat) := by
  have hauto : (p1.getLsbD 4 && decide (1 < ar.toNat)) = outside (p1.getLsbD 4) 0 1 ar.toNat := by simp [outside]
  unfold guardsClamped
  simp only [wasClamped_eq_outside, maskClamped_eq_outside, presentGuard_eq, numAt_succ, numAt_one]
  simp only [← hauto, laneNumbers, List.any_cons, List.any_nil, Bool.or_false, ← Bool.or_assoc]
  rfl

theorem guardConfigFields_eq : guardConfigFields g =
    [.num 1 g.strikeHold, .num 1 g.stormDecay, .num 1 g.driverRetry, .num 1 (if g.autoretry then 1 else 0),
      .num 1 g.currentLimit, .num 1 g.blanking, .num 1 (lanesNumber g.masks.l0), .num 1 (lanesNumber g.masks.l1),
      .num 1 (lanesNumber g.masks.l2), .num 1 (lanesNumber g.masks.l3), .num 1 (lanesNumber g.isolate)] := by
  simp only [guardConfigFields, PerLane.toList, List.map_cons, List.map_nil, laneSetCode_eq]
  rfl

end

section
variable (new : GuardConfig) (s : State)

/-- The protection block with the parameters and retry timers of a PROTECTION SETUP, before STORM follows. -/
def configWritten (new : GuardConfig) (s : State) : State :=
  { s with prot := { s.prot with
    config := new
    guards := s.prot.guards.map
      (retryAfterSetup s.prot.config.autoretry new.autoretry (retryLength new.driverRetry)) } }

theorem retryAfterSetup_eq (was now : Bool) (length : Nat) (g : LaneGuard) : retryAfterSetup was now length g =
    { g with retry := if was && !now then none
        else if !was && now && g.causes.driver && g.retry.isNone then some length else g.retry } := by
  unfold retryAfterSetup
  split_ifs <;> rfl

theorem followed_writeGuardConfig :
    Followed allLanes (fun l => { s.prot.guards.get l with
        retry := if s.prot.config.autoretry && !new.autoretry then none
          else if !s.prot.config.autoretry && new.autoretry && (s.prot.guards.get l).causes.driver &&
            (s.prot.guards.get l).retry.isNone then some (80 * new.driverRetry)
          else (s.prot.guards.get l).retry
        causes := { (s.prot.guards.get l).causes with storm :=
          if s.prot.stormOn ∧ s.prot.config.isolate.get l ≠ new.isolate.get l then new.isolate.get l
          else (s.prot.guards.get l).causes.storm } })
      (configWritten new s) (writeGuardConfig new s) := by
  refine (followed_isolateLanes (configWritten new s) s.prot.config.isolate new.isolate).congr fun l => ?_
  have hget : (configWritten new s).prot.guards.get l =
      retryAfterSetup s.prot.config.autoretry new.autoretry (retryLength new.driverRetry) (s.prot.guards.get l) := by
    simp [configWritten]
  rw [hget, retryAfterSetup_eq]
  rfl

/-- An answer moves no lane. -/
theorem lanesFollow_respond {s t : State} (h : LanesFollow s t) (c : Byte) (a : AnswerCode) (body : List Field) :
    LanesFollow s (respond c a body t) := by
  obtain ⟨hlanes, hflag, hrest⟩ := h
  refine ⟨hlanes, by rw [flagSet_respond]; exact hflag, ?_⟩
  conv_lhs => rw [hrest]
  rfl

theorem raisesOnly_respond {s t : State} {fs : List Flag} (h : RaisesOnly fs s t) (c : Byte) (a : AnswerCode)
    (body : List Field) : RaisesOnly fs s (respond c a body t) := fun f => by
  rw [flagSet_respond]; exact h f

end

/-- Settles O45: the parameters are written with the retry timers, and then STORM follows lane by lane. -/
theorem protectionSetupWrites : Obligations.ProtectionSetupWrites := by
  intro s p1 p0 sh sd dr ar cl bl m0 m1 m2 m3 iso hs
  have hf := followed_writeGuardConfig (guardsSet p1 p0 sh sd dr ar cl bl m0 m1 m2 m3 iso s.prot.config) s
  set new := guardsSet p1 p0 sh sd dr ar cl bl m0 m1 m2 m3 iso s.prot.config with hnew
  have hexec : exec (.protectionSetup [p1, p0, sh, sd, dr, ar, cl, bl, m0, m1, m2, m3, iso]) s = .next (respond 0x07
      (if guardsClamped [p1, p0, sh, sd, dr, ar, cl, bl, m0, m1, m2, m3, iso] then .clamped else .ok)
      (guardConfigFields new) (writeGuardConfig new s)) := by
    refine (request_of_length hs rfl _).trans ?_
    unfold protectionSetup
    rw [writtenGuards_eq]
  have hconfig : (writeGuardConfig new s).prot.config = new := by rw [hf.prot]; rfl
  have hfrom : Only [.prot, .flags] s (configWritten new s) := .of_eq rfl
  have hcauses (k : Fin 4) : ((configWritten new s).prot.guards.get k).causes = (s.prot.guards.get k).causes := by
    simp [configWritten, retryAfterSetup_eq]
  refine ⟨_, hexec, hconfig, ?_, fun l => ?_, ?_, raisesOnly_respond (hf.raisesOnly (fun f => ?_) (by simp)) _ _ _,
    lanesFollow_respond (hf.lanesFollow hfrom hcauses rfl) _ _ _⟩
  · rw [guardsClamped_eq, guardConfigFields_eq]
    simp only [respond_prot, hconfig]
    rfl
  · simp only [respond_prot, hconfig]
    exact hf.guard l
  · rw [respond_prot, hf.prot]
    rfl
  · exact ⟨id, fun _ => rfl⟩

end Sys2Proof.Configuring
end

section
/-! What every step keeps of the lanes and of the protection block (R63, R68, R79, R80, R82, R84 to R86, R90, R189). -/

-- One declaration after another: side by side, the proofs of the text need more memory than its check allows.
set_option Elab.async false

namespace Sys2Proof.LanePromise

open Sys2Proof Sys2Proof.Machine Sys2Proof.Claims Sys2Proof.Frame Sys2Proof.Guarding Sys2Proof.Configuring

/-! ### The promises lane by lane -/

/-- Every cause of a lane has its reason: STRIKE its hold, STORM the posture with the lane's flag, and a retry timer runs
for DRIVER alone (R79, R80, R86, R90). -/
structure Reasoned (on isolate : Bool) (g : LaneGuard) : Prop where
  strike : g.causes.strike = g.strikeHold.isSome
  storm : g.causes.storm = (on && isolate)
  retry : g.retry.isSome = true → g.causes.driver = true

/-- What is promised of a lane with its protection (R63, R68). -/
structure Bonded (on isolate : Bool) (lane : Lane) (g : LaneGuard) : Prop extends Reasoned on isolate g where
  score : lane.score ≤ 4095
  quarantine : lane.state ≠ .off → (lane.state = .quarantined ↔ g.causes ≠ Causes.none)

/-- The promises of the lanes and of the protection block. -/
structure Promised (s : State) : Prop where
  bonded : ∀ l, Bonded s.prot.stormOn (s.prot.config.isolate.get l) (s.lanes.get l) (s.prot.guards.get l)
  storm : StormConsistent s
  range : GuardsInRange s

theorem promised_iff (s : State) : Promised s ↔
    ScoresInRange s ∧ QuarantineFollowsCauses s ∧ CausesHaveTheirReasons s ∧ StormConsistent s ∧ GuardsInRange s :=
  ⟨fun h => ⟨fun l => (h.bonded l).score, fun l => (h.bonded l).quarantine,
      fun l => ⟨(h.bonded l).strike, (h.bonded l).storm, (h.bonded l).retry⟩, h.storm, h.range⟩,
    fun ⟨hscore, hquar, hreason, hstorm, hrange⟩ =>
      ⟨fun l => ⟨⟨(hreason l).1, (hreason l).2.1, (hreason l).2.2⟩, hscore l, hquar l⟩, hstorm, hrange⟩⟩

section
variable {on isolate : Bool} {lane new : Lane} {g g' : LaneGuard}

/-- A lane with the same score and state, and protection with the same causes and timers. -/
theorem Bonded.congr (h : Bonded on isolate lane g) (hscore : new.score = lane.score) (hstate : new.state = lane.state)
    (hcauses : g'.causes = g.causes) (hhold : g'.strikeHold.isSome = g.strikeHold.isSome)
    (hretry : g'.retry.isSome = g.retry.isSome) : Bonded on isolate new g' where
  strike := by rw [hcauses, hhold]; exact h.strike
  storm := by rw [hcauses]; exact h.storm
  retry := by rw [hcauses, hretry]; exact h.retry
  score := by rw [hscore]; exact h.score
  quarantine := by rw [hcauses, hstate]; exact h.quarantine

/-- A lane that follows its cause set stays bonded to it. -/
theorem Bonded.follow {on' : Bool} {isolate' : Bool} (h : Bonded on isolate lane g) (h' : Reasoned on' isolate' g') :
    Bonded on' isolate' (laneAfter g.causes g'.causes lane) g' := by
  refine ⟨h', ?_, ?_⟩
  · unfold laneAfter
    split_ifs <;> exact h.score
  · have hq := h.quarantine
    unfold laneAfter
    by_cases hold : g.causes = Causes.none <;> by_cases hnew : g'.causes = Causes.none <;>
      by_cases hoff : lane.state = .off <;> by_cases hquar : lane.state = .quarantined <;> simp_all
    split <;> simp

end

/-! ### Steps that keep lanes and protection as they stand -/

section
variable {s t : State}

theorem Promised.same (h : Promised s) (hl : t.lanes = s.lanes) (hp : t.prot = s.prot) : Promised t where
  bonded l := by rw [hl, hp]; exact h.bonded l
  storm := by simpa only [StormConsistent, hp] using h.storm
  range := by simpa only [GuardsInRange, hp] using h.range

theorem Promised.unchanged (h : Promised s) {ps : List Part} (ho : Only ps s t)
    (hl : .lanes ∉ ps := by decide) (hp : .prot ∉ ps := by decide) : Promised t := h.same (ho.lanes hl) (ho.prot hp)

/-- Lane by lane, while posture, level, decay timer and parameters stay. -/
theorem Promised.lanewise (h : Promised s) (hon : t.prot.stormOn = s.prot.stormOn)
    (hlevel : t.prot.stormLevel = s.prot.stormLevel) (hdecay : t.prot.stormDecay = none ↔ s.prot.stormDecay = none)
    (hcfg : t.prot.config = s.prot.config)
    (hb : ∀ l, Bonded s.prot.stormOn (s.prot.config.isolate.get l) (s.lanes.get l) (s.prot.guards.get l) →
      Bonded s.prot.stormOn (s.prot.config.isolate.get l) (t.lanes.get l) (t.prot.guards.get l)) : Promised t where
  bonded l := by rw [hon, hcfg]; exact hb l (h.bonded l)
  storm := by simpa only [StormConsistent, hon, hlevel, hdecay] using h.storm
  range := by simpa only [GuardsInRange, hcfg] using h.range

/-! ### The operations on cause sets -/

theorem Promised.guardWritten (h : Promised s) (l : Fin 4) {g : LaneGuard}
    (hg : Reasoned s.prot.stormOn (s.prot.config.isolate.get l) g) : Promised (guardWritten l g s) := by
  have hprot := guardWritten_prot l s g
  refine h.lanewise (by rw [hprot]) (by rw [hprot]) (by rw [hprot]) (by rw [hprot]) fun k hk => ?_
  rw [guardWritten_lanes, hprot, PerLane.get_set, PerLane.get_set]
  by_cases he : k = l
  · subst he
    rw [if_pos rfl, if_pos rfl]
    exact hk.follow hg
  · rw [if_neg he, if_neg he]
    exact hk

/-- Four writes in turn keep the promises, where the causes then have their reasons. -/
theorem Promised.followed {m : State} {gs : Fin 4 → LaneGuard} (h : Promised s) (hf : Followed allLanes gs m t)
    (hl : m.lanes = s.lanes) (hc : ∀ l, (m.prot.guards.get l).causes = (s.prot.guards.get l).causes)
    (hg : ∀ l, Reasoned m.prot.stormOn (m.prot.config.isolate.get l) (gs l)) (hstorm : StormConsistent m)
    (hrange : GuardsInRange m) : Promised t where
  bonded l := by
    rw [hf.lane, hf.guard, hf.prot, hl, hc]
    exact (h.bonded l).follow (hg l)
  storm := by rw [StormConsistent, hf.prot]; exact hstorm
  range := by rw [GuardsInRange, hf.prot]; exact hrange

theorem promised_onLanes {pick : Fin 4 → Bool} {f : Fin 4 → State → State}
    (hf : ∀ l {s}, Promised s → Promised (f l s)) (h : Promised s) : Promised (onLanes pick f s) := by
  have step : ∀ {s} l, Promised s → Promised (if pick l then f l s else s) := fun l h => by
    split
    · exact hf l h
    · exact h
  rw [onLanes_eq]
  exact step 3 (step 2 (step 1 (step 0 h)))

theorem promised_raise (h : Promised s) (f : Flag) : Promised (raise f s) := h.same rfl rfl

theorem promised_expireStrikeHold (l : Fin 4) (h : Promised s) : Promised (expireStrikeHold l s) := by
  obtain ⟨hstrike, hstorm, hretry⟩ := (h.bonded l).toReasoned
  rw [expireStrikeHold_eq]
  split
  · exact h.guardWritten l ⟨rfl, hstorm, hretry⟩
  · exact h

theorem promised_releaseDriver (l : Fin 4) (h : Promised s) : Promised (releaseDriver l s) := by
  obtain ⟨hstrike, hstorm, hretry⟩ := (h.bonded l).toReasoned
  rw [releaseDriver_eq]
  exact h.guardWritten l ⟨hstrike, hstorm, by simp⟩

theorem promised_expireRetry (l : Fin 4) (h : Promised s) : Promised (expireRetry l s) := by
  unfold expireRetry
  split
  · exact promised_releaseDriver l h
  · exact h

theorem promised_expireBlanking (l : Fin 4) (h : Promised s) : Promised (expireBlanking l s) := by
  obtain ⟨hstrike, hstorm, hretry⟩ := (h.bonded l).toReasoned
  unfold expireBlanking
  split
  · rw [faultDriver_eq]
    have hwritten := (promised_raise h .driver).guardWritten l (g := { guardOf s l with
      overcurrent := false, blanking := none, faults := min 255 ((guardOf s l).faults + 1)
      retry := if s.prot.config.autoretry then some (80 * s.prot.config.driverRetry) else (guardOf s l).retry
      causes := { (guardOf s l).causes with driver := true } }) ⟨hstrike, hstorm, fun _ => rfl⟩
    exact hwritten.unchanged (raiseIf_only _ _ _)
  · exact h

theorem promised_setThermal (l : Fin 4) (b : Bool) (h : Promised s) :
    Promised (guardWritten l { guardOf s l with causes := { (guardOf s l).causes with thermal := b } } s) := by
  obtain ⟨hstrike, hstorm, hretry⟩ := (h.bonded l).toReasoned
  exact h.guardWritten l ⟨hstrike, hstorm, hretry⟩

/-- A storm decay that expires (R84 to R86). -/
theorem promised_expireStormDecay (h : Promised s) : Promised (expireStormDecay s) := by
  by_cases hdue : s.prot.stormDecay = some 0
  · obtain ⟨t, rfl, ⟨hlanes, -, -⟩, -, hlevel, hdecay, hon, hguards, -, hcfg, -⟩ := decay_effects s h.storm hdue
    obtain ⟨hmax, hpos, hlow, hrun⟩ := h.storm
    refine ⟨fun l => ?_, ?_, by simpa only [GuardsInRange, hcfg] using h.range⟩
    · obtain ⟨hstrike, hstorm, hretry⟩ := (h.bonded l).toReasoned
      rw [hlanes, hcfg]
      refine (h.bonded l).follow ?_
      rw [hguards]
      refine ⟨hstrike, ?_, hretry⟩
      simp only [hstorm, hon]
      cases s.prot.stormOn <;> cases decide ((expireStormDecay s).prot.stormLevel ≠ 0) <;> simp
    · refine ⟨by omega, fun ht => ?_, fun ht => ?_, ?_⟩
      · rw [hon] at ht
        simp only [Bool.and_eq_true, decide_eq_true_eq] at ht
        omega
      · rw [hon, Bool.and_eq_false_iff, decide_eq_false_iff_not, not_not] at ht
        rcases ht with ht | ht
        · have := hlow ht
          omega
        · omega
      · rw [hdecay]
        split <;> simp [*]
  · rw [expireStormDecay_eq, if_neg hdue]
    exact h

/-- A counted strike (R79, R84 to R86). -/
theorem promised_countStrike (i : Fin 4) (h : Promised s) : Promised (countStrike i s) := by
  by_cases hr : (s.prot.inputs.get i).refractory = true
  · unfold countStrike
    rw [if_pos hr]
    exact h
  · have hf := followed_countStrike i s (Bool.eq_false_iff.2 hr)
    have hprot := strikeWritten_prot i s
    refine h.followed hf (strikeWritten_only i s).lanes (fun l => by rw [hprot]; rfl) (fun l => ?_) ?_ ?_
    · obtain ⟨hstrike, hstorm, hretry⟩ := (h.bonded l).toReasoned
      rw [hprot]
      refine ⟨?_, ?_, hretry⟩
      · simp only [guardStruck, hstrike]
        cases (s.prot.config.masks.get i).get l <;> simp
      · simp only [guardStruck, hstorm, protStruck]
        cases s.prot.stormOn <;> simp
    · obtain ⟨hmax, hpos, hlow, hrun⟩ := h.storm
      rw [StormConsistent, hprot]
      simp only [protStruck, Bool.or_eq_true, decide_eq_true_eq, Bool.or_eq_false_iff, decide_eq_false_iff_not]
      refine ⟨by omega, fun _ => by omega, fun ⟨_, ht⟩ => by omega, ?_⟩
      split
      · simp
      · simp only [← hrun]
        omega
    · rw [GuardsInRange, hprot]
      exact h.range

/-- A value moved into its range lies there. -/
theorem within_bounds {lo hi v old : Nat} (h : lo ≤ hi) (ho : lo ≤ old ∧ old ≤ hi) (present : Bool) :
    lo ≤ within present lo hi v old ∧ within present lo hi v old ≤ hi := by
  unfold within
  split <;> omega

theorem written_bounds {lo hi v old : Nat} (h : lo ≤ hi) (ho : lo ≤ old ∧ old ≤ hi) (present : Bool) :
    lo ≤ written present lo hi v old ∧ written present lo hi v old ≤ hi := by
  rw [written_eq_within h]
  exact within_bounds h ho present

/-- PROTECTION SETUP (R86, R90, R189). -/
theorem promised_writeGuardConfig (body : List Byte) (h : Promised s) :
    Promised (writeGuardConfig (writtenGuards body s.prot.config) s) := by
  obtain ⟨hstrike, hdecay, hretry, hlimit, hblank⟩ := h.range
  refine h.followed (followed_writeGuardConfig (writtenGuards body s.prot.config) s) rfl (fun l => ?_) (fun l => ?_)
    h.storm ⟨written_bounds (by decide) hstrike _, written_bounds (by decide) hdecay _,
      written_bounds (by decide) hretry _, (written_bounds (by decide) ⟨Nat.zero_le _, hlimit⟩ _).2,
      (written_bounds (by decide) ⟨Nat.zero_le _, hblank⟩ _).2⟩
  · simp [configWritten, retryAfterSetup_eq]
  · obtain ⟨hstrike, hstorm, hretry⟩ := (h.bonded l).toReasoned
    refine ⟨hstrike, ?_, ?_⟩
    · change (if s.prot.stormOn = true ∧ _ then _ else _) = (s.prot.stormOn && (writtenGuards body s.prot.config).isolate.get l)
      rw [hstorm]
      cases s.prot.stormOn <;> cases s.prot.config.isolate.get l <;>
        cases (writtenGuards body s.prot.config).isolate.get l <;> rfl
    · dsimp only
      split_ifs with h1 h2
      · simp
      · simp only [Bool.and_eq_true] at h2
        exact fun _ => h2.1.2
      · exact hretry

theorem promised_expireGuards (h : Promised s) : Promised (expireGuards s) :=
  promised_onLanes (fun l {_} => promised_expireRetry l) (promised_onLanes (fun l {_} => promised_expireBlanking l)
    (promised_expireStormDecay (promised_onLanes (fun l {_} => promised_expireStrikeHold l) h)))

end

/-! ### The evaluation of a lane -/

section
variable (lane : Lane) (valid clean : Bool)

/-- The states that only LANE SETUP and the cause set enter and leave. -/
def heldState : LaneState → Bool
  | .off | .quarantined => true
  | _ => false

theorem alignStep_free (h : heldState lane.state = false) : heldState (alignStep lane valid).state = false := by
  unfold alignStep
  dsimp only
  generalize (if valid = true then lane.validRun + 1 else 0) = run
  split_ifs
  · rfl
  · rfl
  · exact h

theorem admitStep_free (h : heldState lane.state = false) : heldState (admitStep lane clean).state = false := by
  unfold admitStep
  split_ifs
  · rfl
  · exact h
  · rfl
  · exact h

theorem scoreStep_free (h : heldState lane.state = false) : heldState (scoreStep lane clean).state = false := by
  unfold scoreStep
  split
  · split_ifs
    · rfl
    · rfl
    · exact h
  · split_ifs
    · rfl
    · rfl
    · exact h
  · split_ifs
    · rfl
    · exact h
  · exact admitStep_free lane clean h
  · exact h

theorem alignedStep_free (h : heldState lane.state = false) : heldState (alignedStep lane valid clean).state = false := by
  unfold alignedStep
  dsimp only
  generalize (if valid = true then 0 else lane.missRun + 1) = run
  split_ifs
  · rfl
  · rfl
  · exact scoreStep_free lane clean h

/-- The state step neither enters OFF or QUARANTINED nor leaves one of them (R66). -/
theorem stateStep_held : heldState (stateStep lane valid clean).state = heldState lane.state ∧
    (heldState lane.state = true → (stateStep lane valid clean).state = lane.state) := by
  have free (h : heldState lane.state = false) : heldState (stateStep lane valid clean).state = false := by
    unfold stateStep
    split
    · exact h
    · exact h
    · split_ifs
      · rfl
      · exact h
    · split_ifs
      · exact alignStep_free lane valid h
      · rfl
    · exact alignedStep_free lane valid clean h
  have held (h : heldState lane.state = true) : (stateStep lane valid clean).state = lane.state := by
    cases hs : lane.state with
    | off | quarantined => simp [stateStep, hs]
    | dark | aligning | recovering | admitting | inService | suspect => simp [hs, heldState] at h
  cases h : heldState lane.state with
  | false => exact ⟨free h, nofun⟩
  | true => exact ⟨(congrArg heldState (held h)).trans h, fun _ => held h⟩

theorem stateStep_state_iff {k : LaneState} (hk : heldState k = true) :
    (stateStep lane valid clean).state = k ↔ lane.state = k := by
  obtain ⟨heq, hstay⟩ := stateStep_held lane valid clean
  constructor
  · rintro rfl
    exact (hstay (heq ▸ hk)).symm
  · rintro rfl
    exact hstay hk

end

section
variable {on isolate : Bool} {lane new : Lane} {g : LaneGuard}

/-- A lane that neither enters nor leaves OFF or QUARANTINED stays bonded. -/
theorem Bonded.moves (h : Bonded on isolate lane g) (hscore : new.score ≤ 4095) (hoff : new.state = .off ↔ lane.state = .off)
    (hquar : new.state = .quarantined ↔ lane.state = .quarantined) : Bonded on isolate new g where
  toReasoned := h.toReasoned
  score := hscore
  quarantine := by rw [Ne, hoff, hquar]; exact h.quarantine

theorem Bonded.evaluate (h : Bonded on isolate lane g) (signal : Bool) (target : Nat) (j : Judgement) :
    Bonded on isolate (lane.evaluate signal target j) g :=
  h.moves (by unfold Lane.evaluate; rw [LaneScore.stateStep_score]; exact scoreAfter_le _ _ _)
    (stateStep_state_iff _ _ _ rfl) (stateStep_state_iff _ _ _ rfl)

end

section
variable {s t : State}

/-- One lane is written, the protection staying. -/
theorem Promised.lane (h : Promised s) (l : Fin 4) {new : Lane} (hl : t.lanes = s.lanes.set l new) (hp : t.prot = s.prot)
    (hb : Bonded s.prot.stormOn (s.prot.config.isolate.get l) new (s.prot.guards.get l)) : Promised t := by
  refine h.lanewise (by rw [hp]) (by rw [hp]) (by rw [hp]) (by rw [hp]) fun k hk => ?_
  rw [hl, hp, PerLane.get_set]
  split
  · next he => exact he ▸ hb
  · exact hk

theorem promised_evaluateLane (l : Fin 4) (input : LaneInput) (h : Promised s) : Promised (evaluateLane l input s) := by
  unfold evaluateLane
  dsimp only
  split
  · exact h.lane l rfl rfl ((h.bonded l).congr rfl rfl rfl rfl rfl)
  · refine h.lane l ?_ ?_ ((h.bonded l).evaluate input.signal (holdTarget s) (judgeLane s l input))
    · simp [keepHandOver, changeLane_lanes]
    · simp [keepHandOver]

theorem promised_evaluateOnce (l : Fin 4) (input : LaneInput) (h : Promised s) : Promised (evaluateOnce l input s) := by
  unfold evaluateOnce
  split
  · exact promised_evaluateLane l input h
  · exact h

theorem promised_evaluateAll (inputs : PerLane LaneInput) (h : Promised s) : Promised (evaluateAll inputs s) :=
  promised_evaluateOnce 3 _ (promised_evaluateOnce 2 _ (promised_evaluateOnce 1 _ (promised_evaluateOnce 0 _ h)))

theorem promised_evaluateWhen (pick : Lane → Lane → Bool) (l : Fin 4) (input : LaneInput) (h : Promised s) :
    Promised (evaluateWhen pick l input s) := by
  have taken : Promised (judgeTakeMast (judgeTakeTruck s)) :=
    (h.unchanged (judgeTakeTruck_only s)).unchanged (judgeTakeMast_only _)
  unfold evaluateWhen
  dsimp only
  split
  · exact promised_evaluateOnce l input taken
  · exact h

/-! ### The boundary -/

theorem tick_isSome (t : Option Nat) : (tick t).isSome = t.isSome := by
  unfold tick
  split <;> rfl

theorem promised_settle (h : Promised s) : Promised (settle s) := by
  have timers := (((promised_expireGuards h).unchanged (expireWindow_only _)).unchanged (expireGap_only _)).unchanged
    (expireRecall_only _)
  have cycle := ((timers.unchanged (judgeRunEnd_only _)).unchanged (judgeCycleEnd_only _)).unchanged (judgeHoldover_only _)
  exact ((cycle.unchanged (judgeTakeTruck_only _)).unchanged (judgeTakeMast_only _)).unchanged (judgeCompletion_only _)

theorem promised_sendFrames (runs : List FilledRun) (h : Promised s) : Promised (sendFrames runs s) := by
  refine h.lanewise rfl rfl .rfl rfl fun l hl => ?_
  simp only [sendFrames, PerLane.get_ofFn]
  refine hl.congr rfl rfl ?_ ?_ ?_
  all_goals split <;> rfl

theorem promised_advance (h : Promised s) : Promised (advance s) := by
  have hdecay : tick s.prot.stormDecay = none ↔ s.prot.stormDecay = none := by
    rw [← Option.isNone_iff_eq_none, ← Option.isNone_iff_eq_none, ← Option.not_isSome, tick_isSome, Option.not_isSome]
  refine h.lanewise rfl rfl hdecay rfl fun l hl => ?_
  simp only [advance, PerLane.get_map]
  exact hl.congr rfl rfl rfl (tick_isSome _) (tick_isSome _)

theorem promised_sendSuperframe (h : Promised s) : Promised (sendSuperframe s) := by
  have taken := h.unchanged (takeForSending_only s)
  exact promised_sendFrames _ (taken.unchanged (settlePool_only _))

theorem promised_completeSuperframe (inputs : PerLane LaneInput) (h : Promised s) :
    Promised (completeSuperframe inputs s) := by
  have received := (promised_evaluateAll inputs (promised_settle h)).unchanged (deliverSuperframe_only _)
  have judged := ((received.unchanged (receiveControl_only _)).unchanged (judgeFullSync_only _)).unchanged (judgeIssue_only _)
  unfold completeSuperframe superframeWork
  exact promised_advance (promised_sendSuperframe judged)

/-! ### LANE SETUP, the GRADE input and the resets -/

theorem bonded_setupLane {on isolate : Bool} {lane : Lane} {g : LaneGuard} (h : Bonded on isolate lane g) (kind : Kind)
    (enable : Bool) : Bonded on isolate (setupLane kind enable (noCauses g.causes) lane) g := by
  refine ⟨h.toReasoned, ?_, ?_⟩
  · unfold setupLane
    split
    · exact h.score
    · exact Nat.zero_le _
  · rw [noCauses_eq]
    unfold setupLane
    split
    · cases enable <;> by_cases hc : g.causes = Causes.none <;> simp [hc]
    · exact fun hne => absurd rfl hne

/-- A part whose lanes and protection are cleared, for parameters in their ranges. -/
theorem promised_cleared {supply : Supply} (hp : t.prot = Protection.cleared supply t.prot.config) (hr : GuardsInRange t)
    (hl : ∀ l, (t.lanes.get l).score = 0 ∧ (t.lanes.get l).state ≠ .quarantined) : Promised t := by
  have hguard (l : Fin 4) : t.prot.guards.get l = LaneGuard.cleared := by rw [hp]; simp [Protection.cleared]
  have hon : t.prot.stormOn = false := by rw [hp]; rfl
  refine ⟨fun l => ⟨⟨?_, ?_, ?_⟩, ?_, fun _ => ?_⟩, ?_, hr⟩
  · rw [hguard]; rfl
  · rw [hguard, hon]; rfl
  · rw [hguard]; simp [LaneGuard.cleared]
  · rw [(hl l).1]; exact Nat.zero_le _
  · rw [hguard]; simp [LaneGuard.cleared, (hl l).2]
  · rw [StormConsistent, hp]; simp [Protection.cleared]

theorem promised_softReset (h : Promised s) : Promised (softReset s) := by
  refine promised_cleared (supply := s.prot.supply) rfl h.range fun l => ?_
  simp only [softReset, PerLane.get_map, Lane.softReset, true_and]
  split <;> simp

theorem promised_hardReset (held : Resetting) (s : State) : Promised (hardReset held s) := by
  refine promised_cleared (supply := s.prot.supply) rfl (show GuardsInRange State.reset by decide) fun l => ?_
  simp [hardReset, Lane.hardReset]

theorem promised_endCondition (cause : HardCause) (strap : Role) (high : Bool) (h : Promised s) :
    Promised (endCondition cause strap high s) := by
  unfold endCondition
  dsimp only
  split_ifs
  · exact h
  · exact h.same rfl rfl
  · exact h.lanewise rfl rfl .rfl rfl fun _ hl => hl

theorem promised_board (hb : Board s t) (h : Promised s) : Promised t := by
  cases hb with
  | hardReset held _ => exact promised_hardReset held s
  | condition cause strap high => exact promised_endCondition cause strap high h
  | grade l g =>
    refine h.lane l (new := { s.lanes.get l with gradeInput := g }) ?_ ?_ ((h.bonded l).congr rfl rfl rfl rfl rfl)
    · simp [setGrade]
    · simp [setGrade]

/-- Protection whose causes, holds and retry timers stay. -/
theorem promised_guards {gs : PerLane LaneGuard} {inputs : PerLane StrikeInput} (h : Promised s)
    (ht : t = { s with prot := { s.prot with guards := gs, inputs := inputs } })
    (hg : ∀ l, (gs.get l).causes = (s.prot.guards.get l).causes ∧
      (gs.get l).strikeHold = (s.prot.guards.get l).strikeHold ∧ (gs.get l).retry = (s.prot.guards.get l).retry) :
    Promised t := by
  subst ht
  refine h.lanewise rfl rfl .rfl rfl fun l hl => ?_
  obtain ⟨hcauses, hhold, hretry⟩ := hg l
  exact hl.congr rfl rfl hcauses (congrArg _ hhold) (congrArg _ hretry)

theorem promised_putGuard (l : Fin 4) {g : LaneGuard} (h : Promised s) (hcauses : g.causes = (guardOf s l).causes)
    (hhold : g.strikeHold = (guardOf s l).strikeHold) (hretry : g.retry = (guardOf s l).retry) :
    Promised (putGuard l g s) := by
  refine promised_guards h rfl fun k => ?_
  rw [PerLane.get_set]
  split
  · next he => subst he; exact ⟨hcauses, hhold, hretry⟩
  · exact ⟨rfl, rfl, rfl⟩

/-! ### Every piece of work -/

theorem promised_work (hw : Work s t) (h : Promised s) : Promised t := by
  cases hw with
  | nothing => exact h
  | laneSetup l kind enable _ =>
    exact h.lane l (changeLane_lanes _ _ _) (changeLane_prot _ _ _) (bonded_setupLane (h.bonded l) kind enable)
  | protectionSetup body => exact promised_writeGuardConfig body h
  | clearLane l => exact h.lane l rfl rfl ((h.bonded l).congr rfl rfl rfl rfl rfl)
  | clearGuards => exact promised_guards h rfl fun l => by simp
  | release l => exact promised_releaseDriver l h
  | softReset => exact promised_softReset h
  | supply x => exact (h.lanewise (t := { s with prot := { s.prot with supply := x } }) rfl rfl .rfl rfl
      fun _ hl => hl).unchanged (raiseIf_only _ _ _)
  | boundary inputs => exact promised_completeSuperframe inputs h
  | evaluation pick l input => exact promised_evaluateWhen pick l input h
  | strike i => exact promised_countStrike i h
  | refractoryEnd i => exact promised_guards h rfl fun _ => ⟨rfl, rfl, rfl⟩
  | strikeHold l => exact promised_expireStrikeHold l h
  | stormDecay => exact promised_expireStormDecay h
  | overcurrent l =>
    unfold reportOvercurrent
    split
    · exact promised_putGuard l h rfl rfl rfl
    · exact h
  | overcurrentEnd l =>
    unfold endOvercurrent
    split
    · exact promised_putGuard l h rfl rfl rfl
    · exact h
  | blanking l => exact promised_expireBlanking l h
  | retry l => exact promised_expireRetry l h
  | thermalTrip l => rw [tripThermal_eq]; exact promised_setThermal l true (promised_raise h .driver)
  | thermalRelease l => rw [removeCause_eq]; exact promised_setThermal l false h
  | configure body _ => exact h.same rfl rfl
  | stage e es _ _ _ => exact h.same rfl rfl
  | discard _ _ => exact (h.same (t := { s with changes := [] }) rfl rfl).unchanged (abandonCommit_only _)
  | commit code _ => exact h.same rfl rfl
  | trigger code epoch =>
    unfold triggerCommit
    split
    · exact h.same rfl rfl
    · exact h
  | clearCircuit n => exact h.same rfl rfl
  | linkStart _ => exact (h.unchanged (moveToCalling_only s)).same rfl rfl
  | linkStop _ => exact h.unchanged (moveToStandby_only _)
  | cell port cell => exact h.unchanged (arriveCell_only _ _ _)
  | steering m => exact h.unchanged (chooseSteering_only _ _ _)
  | reply m => exact h.unchanged (chooseReply_only _ _)
  | cycleEnd => exact h.unchanged (judgeCycleEnd_only _)
  | holdoverExpiry => exact h.unchanged (judgeHoldover_only _)
  | callWindow => exact h.unchanged (expireWindow_only _)
  | gap => exact h.unchanged (expireGap_only _)
  | recallWait => exact h.unchanged (expireRecall_only _)
  | orderIssue => exact h.unchanged (judgeIssue_only _)
  | runEnd => exact h.unchanged (judgeRunEnd_only _)
  | fullSync => exact h.unchanged (judgeFullSync_only _)
  | takeTruck => exact h.unchanged (judgeTakeTruck_only _)
  | takeMast => exact h.unchanged (judgeTakeMast_only _)
  | completion => exact h.unchanged (judgeCompletion_only _)

end

/-- Settles O56: the promises bind each lane to its protection, and every piece of work keeps them. -/
theorem laneAndProtectionPromisesKept : Obligations.LaneAndProtectionPromisesKept := by
  intro s t hs hstep
  rw [← promised_iff] at hs ⊢
  exact step_keeps (fun ho h => h.unchanged ho) promised_board (fun _ => promised_work) hs hstep

end Sys2Proof.LanePromise
end

section
/-! The slots of the circuit table: the records that edits leave, and tables whose slots only gave up cells (R5, R9, R20,
R21, R173). -/

-- One declaration after another: side by side, the proofs of the text need more memory than its check allows.
set_option Elab.async false

namespace Sys2Proof.Slots

open Sys2Proof Sys2Proof.Machine Sys2Proof.Claims Sys2Proof.Frame

/-! ### The records that edits leave -/

theorem recordsOf_putSlot (x : Slot) (xs : List Slot) : recordsOf (putSlot x xs) = putRecord x.record (recordsOf xs) := by
  induction xs with
  | nil => rfl
  | cons y ys ih =>
    unfold recordsOf at *
    unfold putSlot
    simp only [List.map_cons, putRecord]
    split_ifs
    · rfl
    · rfl
    · rw [List.map_cons, ih]

theorem recordsOf_eraseSlot (n : Fin 64) (xs : List Slot) : recordsOf (eraseSlot n xs) = eraseRecord n (recordsOf xs) := by
  simp [recordsOf, eraseSlot, eraseRecord, List.filter_map, Function.comp_def]

/-- A MODIFY writes the record that it carries (R20). -/
theorem modifySlot_record (role : Role) (r : Record) (x : Slot) : (modifySlot role r x).record = r := by
  unfold modifySlot; split <;> rfl

theorem recordsOf_applyEdit (role : Role) (slots : List Slot) (e : Edit) :
    recordsOf (applyEdit role slots e) = projectEdit (recordsOf slots) e := by
  cases e with
  | add r => exact recordsOf_putSlot _ _
  | modify r =>
    unfold applyEdit
    dsimp only
    split
    · rw [recordsOf_putSlot, modifySlot_record]; rfl
    · exact recordsOf_putSlot _ _
  | retire n => exact recordsOf_eraseSlot _ _

/-- After all edits the table holds the records of the projected table (R9, R20). -/
theorem recordsOf_applyEdits (role : Role) (es : List Edit) (slots : List Slot) :
    recordsOf (applyEdits role slots es) = projected (recordsOf slots) es := by
  induction es generalizing slots with
  | nil => rfl
  | cons e es ih =>
    unfold applyEdits
    rw [ih, recordsOf_applyEdit]
    rfl

/-! ### The slot of one number -/

section
variable (role : Role) (slots : List Slot)

theorem slotAt_putSlot (x : Slot) (n : Fin 64) :
    slotAt (putSlot x slots) n = if n = x.record.number then some x else slotAt slots n := by
  split
  · next h => subst h; exact slotAt_putSlot_self x slots
  · next h => exact slotAt_putSlot_ne x slots h

/-- An edit leaves every other number's slot alone (R20). -/
theorem slotAt_applyEdit_ne (e : Edit) {n : Fin 64} (h : n ≠ editNumber e) :
    slotAt (applyEdit role slots e) n = slotAt slots n := by
  cases e with
  | add r => exact slotAt_putSlot_ne _ _ h
  | modify r =>
    unfold applyEdit
    dsimp only
    split
    · exact slotAt_putSlot_ne _ _ (by rw [modifySlot_record]; exact h)
    · exact slotAt_putSlot_ne _ _ h
  | retire n => exact slotAt_eraseSlot_ne _ h

theorem slotAt_applyEdit_add (r : Record) : slotAt (applyEdit role slots (.add r)) r.number = some (newSlot r) :=
  slotAt_putSlot_self (newSlot r) slots

theorem slotAt_applyEdit_modify (r : Record) : slotAt (applyEdit role slots (.modify r)) r.number =
    some (((slotAt slots r.number).map (modifySlot role r)).getD (newSlot r)) := by
  unfold applyEdit
  dsimp only
  split
  · next x h =>
    rw [h, slotAt_putSlot, modifySlot_record, if_pos rfl]
    rfl
  · next h =>
    rw [h]
    exact slotAt_putSlot_self (newSlot r) slots

/-- This end sends the circuits of a direction (R4). -/
theorem senderOf_eq_iff (d : Direction) : senderOf d = role ↔ (d = .down ↔ role = .mast) := by
  cases d <;> cases role <;> simp [senderOf]

end

theorem satAdd_eq_saturating (limit old n : Nat) : satAdd limit old n = saturating limit old n := by
  unfold satAdd saturating
  split <;> omega

/-- Settles O16: edit by edit, each writing the slot of its number. -/
theorem editsAppliedOneByOne : Obligations.EditsAppliedOneByOne := by
  refine ⟨fun role slots es => recordsOf_applyEdits role es slots, fun role slots h => ⟨fun e =>
    ⟨applyEdit_ascending role e h, fun n hn => slotAt_applyEdit_ne role slots e hn⟩,
    slotAt_applyEdit_add role slots, fun n => slotAt_eraseSlot_self n slots, fun r => ⟨fun hfree => ?_, fun x hx =>
    ⟨fun hsend => ?_, fun hsend _ => ?_⟩⟩⟩⟩
  · rw [slotAt_applyEdit_modify, hfree]
    rfl
  · rw [slotAt_applyEdit_modify, hx]
    exact congrArg some (if_pos ((senderOf_eq_iff role r.direction).2 hsend))
  · rw [slotAt_applyEdit_modify, hx, ← satAdd_eq_saturating]
    exact congrArg some (if_neg (mt (senderOf_eq_iff role r.direction).1 hsend))

/-! ### Tables that only gave up cells -/

/-- The slot keeps its record, and its queue holds no more cells than before. -/
structure Thins (x y : Slot) : Prop where
  record : y.record = x.record
  queue : y.queue.length ≤ x.queue.length

theorem Thins.refl (x : Slot) : Thins x x := ⟨rfl, le_rfl⟩

/-- Slot by slot the same records, with no more cells than before. -/
abbrev Thinned (xs ys : List Slot) : Prop := List.Forall₂ Thins xs ys

section
variable {xs ys zs : List Slot} {x y : Slot}

theorem Thinned.refl (xs : List Slot) : Thinned xs xs := List.forall₂_same.2 fun x _ => Thins.refl x

theorem Thinned.comp (h : Thinned xs ys) (h' : Thinned ys zs) : Thinned xs zs := by
  induction h generalizing zs with
  | nil => exact h'
  | cons hxy _ ih =>
    obtain ⟨z, zs, hyz, hs, rfl⟩ := List.forall₂_cons_left_iff.1 h'
    exact .cons ⟨hyz.record.trans hxy.record, hyz.queue.trans hxy.queue⟩ (ih hs)

theorem thinned_map {f : Slot → Slot} (hf : ∀ x, Thins x (f x)) (xs : List Slot) : Thinned xs (xs.map f) :=
  List.forall₂_map_right_iff.2 (List.forall₂_same.2 fun x _ => hf x)

/-- The slot at a number written in place, for any relation of the slots before and after. -/
theorem forall₂_putSlot {R : Slot → Slot → Prop} (hrefl : ∀ x, R x x) (hs : Ascending xs) (hx : x ∈ xs)
    (hn : y.record.number = x.record.number) (h : R x y) : List.Forall₂ R xs (putSlot y xs) := by
  induction xs with
  | nil => cases hx
  | cons z zs ih =>
    obtain ⟨hz, hzs⟩ := ascending_cons.1 hs
    unfold putSlot
    rw [hn]
    rcases List.mem_cons.1 hx with rfl | hx
    · rw [if_neg (lt_irrefl _), if_pos rfl]
      exact .cons h (List.forall₂_same.2 fun w _ => hrefl w)
    · have hlt := hz x hx
      rw [if_neg (lt_asymm hlt), if_neg (ne_of_gt hlt)]
      exact .cons (hrefl z) (ih hzs hx)

theorem thinned_putSlot (hs : Ascending xs) (hx : x ∈ xs) (h : Thins x y) : Thinned xs (putSlot y xs) :=
  forall₂_putSlot Thins.refl hs hx (congrArg Record.number h.record) h

theorem Thinned.records (h : Thinned xs ys) : recordsOf ys = recordsOf xs := by
  induction h with
  | nil => rfl
  | cons hxy _ ih =>
    unfold recordsOf at *
    rw [List.map_cons, List.map_cons, hxy.record, ih]

theorem Thinned.cells (h : Thinned xs ys) :
    (ys.map fun x => x.queue.length).sum ≤ (xs.map fun x => x.queue.length).sum := by
  induction h with
  | nil => exact le_rfl
  | cons hxy _ ih =>
    simp only [List.map_cons, List.sum_cons]
    exact Nat.add_le_add hxy.queue ih

/-- Every slot of the thinned table comes from one of the table before. -/
theorem Thinned.source (h : Thinned xs ys) (hy : y ∈ ys) : ∃ x ∈ xs, Thins x y := by
  induction h with
  | nil => cases hy
  | cons hxy _ ih =>
    rcases List.mem_cons.1 hy with rfl | hy
    · exact ⟨_, List.mem_cons_self, hxy⟩
    · obtain ⟨x, hx, h⟩ := ih hy
      exact ⟨x, List.mem_cons_of_mem _ hx, h⟩

end

/-- The slot keeps its record and its queue: only its counters are written. -/
structure Recounts (x y : Slot) : Prop where
  record : y.record = x.record
  queue : y.queue = x.queue

theorem Recounts.refl (x : Slot) : Recounts x x := ⟨rfl, rfl⟩

theorem Recounts.thins {x y : Slot} (h : Recounts x y) : Thins x y := ⟨h.record, by rw [h.queue]⟩

/-- Slot by slot the same records and queues. -/
abbrev Recounted (xs ys : List Slot) : Prop := List.Forall₂ Recounts xs ys

section
variable {xs ys zs : List Slot}

theorem Recounted.refl (xs : List Slot) : Recounted xs xs := List.forall₂_same.2 fun x _ => Recounts.refl x

theorem Recounted.comp (h : Recounted xs ys) (h' : Recounted ys zs) : Recounted xs zs := by
  induction h generalizing zs with
  | nil => exact h'
  | cons hxy _ ih =>
    obtain ⟨z, zs, hyz, hs, rfl⟩ := List.forall₂_cons_left_iff.1 h'
    exact .cons ⟨hyz.record.trans hxy.record, hyz.queue.trans hxy.queue⟩ (ih hs)

theorem Recounted.thinned (h : Recounted xs ys) : Thinned xs ys := h.imp fun _ _ => Recounts.thins

theorem Recounted.cells (h : Recounted xs ys) :
    (ys.map fun x => x.queue.length).sum = (xs.map fun x => x.queue.length).sum := by
  induction h with
  | nil => rfl
  | cons hxy _ ih => simp only [List.map_cons, List.sum_cons, hxy.queue, ih]

end

/-- The ascending order is one of the records. -/
theorem ascending_of_records {xs ys : List Slot} (h : recordsOf ys = recordsOf xs) (hs : Ascending xs) : Ascending ys := by
  have hn (zs : List Slot) : (zs.map fun x => x.record.number) = (recordsOf zs).map Record.number := by
    simp [recordsOf]
  unfold Ascending at *
  rw [hn, h, ← hn]
  exact hs

end Sys2Proof.Slots
end

section
/-! How a promise of the table, the queues or the link is kept by every step: once each operation keeps it, every composite
of operations and every step does. The hard resets are taken here once for all such promises (R195, R197). -/

-- One declaration after another: side by side, the proofs of the text need more memory than its check allows.
set_option Elab.async false

namespace Sys2Proof.Frame

open Sys2Proof Sys2Proof.Machine Sys2Proof.Claims

/-! ### What the promises of table, queues and link take no account of -/

/-- The parts without a promise on table, queues or link. -/
def asideParts : List Part :=
  [.pending, .resetting, .lanes, .handed, .sent, .prot, .stray, .delivered, .held, .flags, .mask, .cause, .shifted]

/-- Two states agree but for those parts, the halves to be sent and the halves held waiting. -/
structure Aside (s t : State) : Prop where
  parts : Only (.chan :: asideParts) s t
  chan : t.chan = { s.chan with toSend := t.chan.toSend, waiting := t.chan.waiting }

theorem aside_of_only {s t : State} {ps : List Part} (h : Only ps s t) (hp : ∀ p ∈ ps, p ∈ asideParts := by decide) :
    Aside s t := by
  have hc : t.chan = s.chan := h.chan fun hm => absurd (hp _ hm) (by decide)
  exact ⟨h.mono fun p hm => List.mem_cons_of_mem _ (hp p hm), by rw [hc]⟩

/-- Every block stands at its reset values, but for what the board gives and what the host processor knows (R195). -/
def blankParts : List Part :=
  [.pending, .role, .resetting, .counting, .lanes, .prot, .held, .flags, .mask, .cause, .shifted]

/-- A part that a hard reset has cleared, held or just left. -/
abbrev Blank (t : State) : Prop := Only blankParts State.reset t

theorem blank_hardReset (held : Resetting) (s : State) : Blank (hardReset held s) := .of_eq rfl

/-- What the board does to a part that is held or runs: it is blank afterwards, or nothing that a promise is about has
changed. -/
theorem Board.blank_or_aside {s t : State} (hb : Board s t) (hh : ResetHeld s) : Blank t ∨ Aside s t := by
  cases hb with
  | hardReset held _ => exact .inl (blank_hardReset _ _)
  | grade l g => exact .inr (aside_of_only (setGrade_only _ _ _))
  | condition cause strap high =>
    unfold endCondition
    dsimp only
    split_ifs with hc hr
    · exact .inr (aside_of_only (.refl [] s))
    · exact .inr (aside_of_only (ps := [.resetting]) (.of_eq rfl))
    · have hin : inReset s = true := by
        unfold inReset
        cases cause <;> simp_all [Resetting.holds]
      have hblank : Blank s := by
        rw [hh hin]
        exact blank_hardReset _ _
      exact .inl (hblank.trans (.of_eq rfl))

/-! ### A part held in reset stays at its hard reset values -/

section
variable {s t : State}

theorem hardReset_idem (held : Resetting) (s : State) : hardReset held (hardReset held s) = hardReset held s := by
  simp [hardReset, PerLane.map, Lane.hardReset, Protection.cleared]

/-- A GRADE input that takes a level is kept by a hard reset (R49, R75). -/
theorem hardReset_setGrade (held : Resetting) (l g : Fin 4) (s : State) :
    hardReset held (setGrade l g (hardReset held s)) = setGrade l g (hardReset held s) := by
  fin_cases l <;> rfl

/-- The condition that holds a part may change while its blocks stand at their hard reset values. -/
theorem hardReset_resetting (held rest : Resetting) (s : State) :
    hardReset rest { hardReset held s with resetting := rest } = { hardReset held s with resetting := rest } := by
  simp [hardReset, PerLane.map, Lane.hardReset, Protection.cleared]

theorem resetHeld_of_runs (h : inReset s = false) : ResetHeld s := fun hr => absurd (h.symm.trans hr) (by decide)

theorem Board.resetHeld (hb : Board s t) (hh : ResetHeld s) : ResetHeld t := by
  cases hb with
  | hardReset held _ => exact fun _ => (hardReset_idem held s).symm
  | grade l g =>
    intro hr
    have hs := hh ((inReset_congr (setGrade_only s l g).resetting.symm).trans hr)
    have hkept := hardReset_setGrade s.resetting l g s
    rw [← hs] at hkept
    rw [(setGrade_only s l g).resetting]
    exact hkept.symm
  | condition cause strap high =>
    unfold endCondition
    dsimp only
    split_ifs with hc hr
    · exact hh
    · have hin : inReset s = true := by
        unfold inReset
        cases cause <;> simp_all [Resetting.holds]
      have hkept := hardReset_resetting s.resetting (s.resetting.without cause) s
      rw [← hh hin] at hkept
      exact fun _ => hkept.symm
    · exact resetHeld_of_runs (Bool.eq_false_iff.2 hr)

/-- Every step keeps the hold of a hard reset (R195, R197). -/
theorem step_resetHeld (hs : ResetHeld s) (h : step s = .next t) : ResetHeld t := by
  unfold step at h
  split at h
  · cases h; exact hs
  · next c q _ =>
    have hq : ResetHeld (s.withPending q) := fun hr => congrArg (State.withPending · q) (hs hr)
    obtain hb | ⟨-, rfl⟩ | ⟨hr, u, hw, hu⟩ := exec_taken h
    · exact hb.resetHeld hq
    · exact hq
    · exact resetHeld_of_runs ((inReset_congr (hu.resetting.trans hw.only.resetting)).trans hr)

end

/-! ### Operation by operation -/

/-- Every operation of the part, but the end of a superframe, keeps the promise. -/
structure Kept (P : State → Prop) : Prop where
  aside : ∀ {s t}, Aside s t → P s → P t
  blank : ∀ {t}, Blank t → P t
  window : ∀ {s}, P s → P (expireWindow s)
  gap : ∀ {s}, P s → P (expireGap s)
  recallWait : ∀ {s}, P s → P (expireRecall s)
  runEnd : ∀ {s}, P s → P (judgeRunEnd s)
  cycleEnd : ∀ {s}, P s → P (judgeCycleEnd s)
  holdover : ∀ {s}, P s → P (judgeHoldover s)
  takeTruck : ∀ {s}, P s → P (judgeTakeTruck s)
  takeMast : ∀ {s}, P s → P (judgeTakeMast s)
  completion : ∀ {s}, P s → P (judgeCompletion s)
  evaluate : ∀ {s} (l : Fin 4) (input : LaneInput), P s → P (evaluateLane l input s)
  deliver : ∀ {s}, P s → P (deliverSuperframe s)
  steering : ∀ {s} (m : Steering) (n : Count), P s → P (chooseSteering m n s)
  reply : ∀ {s} (m : Reply), P s → P (chooseReply m s)
  fullSync : ∀ {s}, P s → P (judgeFullSync s)
  issue : ∀ {s}, P s → P (judgeIssue s)
  sending : ∀ {s}, P s → P (settlePool (takeForSending s).2)
  cell : ∀ {s} (port : Fin 32) (cell : Cell), P s → P (arriveCell port cell s)
  clear : ∀ {s} (n : Fin 64), P s → P (clearCircuit n s)
  configure : ∀ {s} (body : List Byte), timingRefused body s = false → P s →
    P (writeParams (writtenParams body s.params) s)
  stage : ∀ {s} (e : Edit) (es : List Edit), s.role = .truck → s.orders.commit = none →
    stageEdit (recordsOf s.table.slots) s.changes e = .ok es → P s → P { s with changes := es }
  discard : ∀ {s}, s.role = .truck → commitOrdered s = false → P s → P (abandonCommit { s with changes := [] })
  commit : ∀ {s} (code : Nat), commitRefusal code s = none → P s →
    P { s with orders := { s.orders with commit := some (newCommit code s) } }
  trigger : ∀ {s} (code : Nat) (epoch : Count), P s → P (triggerCommit code epoch s)
  linkStart : ∀ {s}, s.link.state = .standby → P s → P { moveToCalling s with counting := true }
  linkStop : ∀ {s}, s.link.state ≠ .standby → P s → P (moveToStandby s)
  softReset : ∀ {s}, P s → P (softReset s)

section
variable {P : State → Prop} (h : Kept P)
include h

theorem Kept.only {s t : State} {ps : List Part} (hs : P s) (ho : Only ps s t)
    (hp : ∀ p ∈ ps, p ∈ asideParts := by decide) : P t := h.aside (aside_of_only ho hp) hs

theorem Kept.settled {s : State} (hs : P s) : P (settle s) := by
  have schedule := h.recallWait (h.gap (h.window (h.only hs (expireGuards_only s))))
  have cycle := h.holdover (h.cycleEnd (h.runEnd schedule))
  unfold settle
  exact h.completion (h.takeMast (h.takeTruck cycle))

theorem Kept.evaluatedOnce {s : State} (l : Fin 4) (input : LaneInput) (hs : P s) : P (evaluateOnce l input s) := by
  unfold evaluateOnce
  split
  · exact h.evaluate l input hs
  · exact hs

theorem Kept.evaluatedAll {s : State} (inputs : PerLane LaneInput) (hs : P s) : P (evaluateAll inputs s) :=
  h.evaluatedOnce 3 _ (h.evaluatedOnce 2 _ (h.evaluatedOnce 1 _ (h.evaluatedOnce 0 _ hs)))

theorem Kept.evaluatedWhen {s : State} (pick : Lane → Lane → Bool) (l : Fin 4) (input : LaneInput) (hs : P s) :
    P (evaluateWhen pick l input s) := by
  unfold evaluateWhen
  dsimp only
  split
  · exact h.evaluatedOnce l input (h.takeMast (h.takeTruck hs))
  · exact hs

theorem Kept.chosen {s : State} (msg : List Byte) (n : Count) (hs : P s) : P (chooseMessage msg n s) := by
  unfold chooseMessage
  split
  · exact h.steering _ _ hs
  · split
    · exact h.reply _ hs
    · exact hs

theorem Kept.received {s : State} (hs : P s) : P (receiveControl s) := by
  have waiting : P { s with chan := { s.chan with waiting := PerLane.ofFn fun l => waitingAfter (s.handed.get l) } } :=
    h.aside ⟨.of_eq rfl, rfl⟩ hs
  unfold receiveControl
  dsimp only
  split
  · exact h.chosen _ _ waiting
  · exact waiting

theorem Kept.sent {s : State} (hs : P s) : P (sendSuperframe s) := by
  have sent : Aside (settlePool (takeForSending s).2) (sendFrames (takeForSending s).1 (settlePool (takeForSending s).2)) :=
    ⟨.of_eq rfl, rfl⟩
  exact h.aside sent (h.sending hs)

theorem Kept.worked {s : State} (inputs : PerLane LaneInput) (hs : P s) : P (superframeWork inputs s) := by
  have received := h.received (h.deliver (h.evaluatedAll inputs hs))
  unfold superframeWork
  exact h.sent (h.issue (h.fullSync received))

/-- The end of a superframe keeps the promise too, where the advance alone does. -/
theorem Kept.completed {s : State} (hadv : ∀ {s}, P s → P (advance s)) (inputs : PerLane LaneInput) (hs : P s) :
    P (completeSuperframe inputs s) := by
  unfold completeSuperframe
  exact hadv (h.worked inputs (h.settled hs))

theorem Kept.work {s t : State} (hboundary : ∀ {s} (inputs : PerLane LaneInput), P s → P (completeSuperframe inputs s))
    (hw : Work s t) (hs : P s) : P t := by
  cases hw with
  | nothing => exact hs
  | configure body hb => exact h.configure body hb hs
  | laneSetup l kind enable _ => exact h.only hs (changeLane_only _ _ _)
  | protectionSetup body => exact h.only hs (writeGuardConfig_only _ _)
  | stage e es hr hc he => exact h.stage e es hr hc he hs
  | discard hr ho => exact h.discard hr ho hs
  | commit code hc => exact h.commit code hc hs
  | trigger code epoch => exact h.trigger code epoch hs
  | clearCircuit n => exact h.clear n hs
  | clearLane l => exact h.only (ps := [.lanes]) hs (.of_eq rfl)
  | clearGuards => exact h.only (ps := [.prot]) hs (.of_eq rfl)
  | release l => exact h.only hs (releaseDriver_only _ _)
  | linkStart hk => exact h.linkStart hk hs
  | linkStop hk => exact h.linkStop hk hs
  | softReset => exact h.softReset hs
  | supply x => exact h.only hs (setSupply_only _ _)
  | boundary inputs => exact hboundary inputs hs
  | evaluation pick l input => exact h.evaluatedWhen pick l input hs
  | cell port cell => exact h.cell port cell hs
  | strike i => exact h.only hs (countStrike_only _ _)
  | refractoryEnd i => exact h.only hs (endRefractory_only _ _)
  | strikeHold l => exact h.only hs (expireStrikeHold_only _ _)
  | stormDecay => exact h.only hs (expireStormDecay_only _)
  | overcurrent l => exact h.only hs (reportOvercurrent_only _ _)
  | overcurrentEnd l => exact h.only hs (endOvercurrent_only _ _)
  | blanking l => exact h.only hs (expireBlanking_only _ _)
  | retry l => exact h.only hs (expireRetry_only _ _)
  | thermalTrip l => exact h.only hs (tripThermal_only _ _)
  | thermalRelease l => exact h.only hs (removeCause_only _ _ _)
  | steering m => exact h.steering m _ hs
  | reply m => exact h.reply m hs
  | cycleEnd => exact h.cycleEnd hs
  | holdoverExpiry => exact h.holdover hs
  | callWindow => exact h.window hs
  | gap => exact h.gap hs
  | recallWait => exact h.recallWait hs
  | orderIssue => exact h.issue hs
  | runEnd => exact h.runEnd hs
  | fullSync => exact h.fullSync hs
  | takeTruck => exact h.takeTruck hs
  | takeMast => exact h.takeMast hs
  | completion => exact h.completion hs

/-- A promise that every operation and the end of a superframe keep is kept by every step, together with the hold of a
hard reset. -/
theorem Kept.steps {s t : State} (hboundary : ∀ {s} (inputs : PerLane LaneInput), P s → P (completeSuperframe inputs s))
    (hheld : ResetHeld s) (hs : P s) (hstep : step s = .next t) : ResetHeld t ∧ P t := by
  refine ⟨step_resetHeld hheld hstep, ?_⟩
  unfold step at hstep
  split at hstep
  · cases hstep; exact hs
  · next c q _ =>
    have hq : ResetHeld (s.withPending q) := fun hr => congrArg (State.withPending · q) (hheld hr)
    have hsq : P (s.withPending q) := h.only (ps := [.pending]) hs (.of_eq rfl)
    obtain hb | ⟨-, rfl⟩ | ⟨hr, u, hw, hu⟩ := exec_taken hstep
    · rcases hb.blank_or_aside hq with hblank | haside
      · exact h.blank hblank
      · exact h.aside haside hsq
    · exact hsq
    · exact h.only (h.work hboundary hw hsq) hu

end

end Sys2Proof.Frame
end

section
/-! The projected table and the change set: what is LIVE at a number after the edits of a change set, and what the merge of
a request keeps (R8, R9, R11, R12). -/

-- One declaration after another: side by side, the proofs of the text need more memory than its check allows.
set_option Elab.async false

namespace Sys2Proof.Slots

open Sys2Proof Sys2Proof.Machine Sys2Proof.Claims Sys2Proof.Frame Sys2Proof.CircuitTable

/-! ### Records in ascending number -/

/-- Records in ascending number (R6). -/
abbrev Sorted (rs : List Record) : Prop := (rs.map Record.number).Pairwise (· < ·)

theorem sorted_recordsOf {slots : List Slot} : Sorted (recordsOf slots) ↔ Ascending slots := by
  simp only [Sorted, Ascending, recordsOf, List.map_map, Function.comp_def]

/-- A record as a slot without cells; tables of records are tables of such slots. -/
theorem recordsOf_newSlot (rs : List Record) : recordsOf (rs.map newSlot) = rs := by
  simp [recordsOf, newSlot, Function.comp_def]

theorem recordAt_recordsOf (slots : List Slot) (n : Fin 64) :
    recordAt (recordsOf slots) n = (slotAt slots n).map Slot.record := by
  unfold recordAt recordsOf slotAt
  rw [List.find?_map]
  rfl

section
variable {rs : List Record} (r : Record) (e : Edit) (n : Fin 64)

theorem sorted_projectEdit (h : Sorted rs) : Sorted (projectEdit rs e) := by
  rw [← recordsOf_newSlot rs] at h ⊢
  rw [← recordsOf_applyEdit .truck]
  exact sorted_recordsOf.2 (applyEdit_ascending _ _ (sorted_recordsOf.1 h))

theorem recordAt_putRecord (rs : List Record) :
    recordAt (putRecord r rs) n = if n = r.number then some r else recordAt rs n := by
  have hput := recordsOf_putSlot (newSlot r) (rs.map newSlot)
  rw [recordsOf_newSlot] at hput
  change recordsOf (putSlot (newSlot r) (rs.map newSlot)) = putRecord r rs at hput
  rw [← hput, recordAt_recordsOf, slotAt_putSlot, apply_ite (Option.map Slot.record), ← recordAt_recordsOf,
    recordsOf_newSlot]
  rfl

theorem recordAt_eraseRecord (rs : List Record) (m : Fin 64) :
    recordAt (eraseRecord n rs) m = if m = n then none else recordAt rs m := by
  have herase := recordsOf_eraseSlot n (rs.map newSlot)
  rw [recordsOf_newSlot] at herase
  rw [← herase, recordAt_recordsOf]
  split
  · next h => subst h; rw [slotAt_eraseSlot_self]; rfl
  · next h => rw [slotAt_eraseSlot_ne _ h, ← recordAt_recordsOf, recordsOf_newSlot]

theorem recordAt_projectEdit (rs : List Record) :
    recordAt (projectEdit rs e) n = if n = editNumber e then editRecord e else recordAt rs n := by
  cases e with
  | add r => exact recordAt_putRecord r n rs
  | modify r => exact recordAt_putRecord r n rs
  | retire m => exact recordAt_eraseRecord m rs n

/-- In ascending number a record is listed exactly where its number gives it. -/
theorem mem_iff_recordAt (h : Sorted rs) {q : Record} : q ∈ rs ↔ recordAt rs q.number = some q := by
  constructor
  · intro hq
    rw [← recordsOf_newSlot rs, recordAt_recordsOf]
    rw [← recordsOf_newSlot rs] at h
    have := slotAt_of_mem (sorted_recordsOf.1 h) (List.mem_map_of_mem (f := newSlot) hq)
    rw [show q.number = (newSlot q).record.number from rfl, this]
    rfl
  · exact List.mem_of_find?_eq_some

end

section
variable {rs : List Record} {es : List Edit}

theorem sorted_projected (h : Sorted rs) : Sorted (projected rs es) := by
  unfold projected
  induction es generalizing rs with
  | nil => exact h
  | cons e es ih => exact ih (sorted_projectEdit e h)

/-- The projected table at a number: the record of the edit held for it, or the committed one (R9). -/
theorem recordAt_projected (hn : (es.map editNumber).Nodup) (rs : List Record) (n : Fin 64) :
    recordAt (projected rs es) n = match heldEdit es n with
      | some e => editRecord e
      | none => recordAt rs n := by
  induction es generalizing rs with
  | nil => rfl
  | cons e es ih =>
    obtain ⟨he, hn⟩ := List.nodup_cons.1 hn
    change recordAt (projected (projectEdit rs e) es) n = _
    rw [ih hn, recordAt_projectEdit]
    unfold heldEdit
    rw [List.find?_cons]
    by_cases h : editNumber e = n
    · have hnone : es.find? (fun x => decide (editNumber x = n)) = none := by
        rw [List.find?_eq_none]
        intro x hx
        simp only [decide_eq_true_eq]
        exact fun hxn => he (h.trans hxn.symm ▸ List.mem_map_of_mem hx)
      rw [hnone]
      simp [h]
    · simp only [h, decide_false, Ne.symm h, if_false]

/-- The number is LIVE in the projected table, as the tests of R10 find it. -/
theorem projectedLive_eq (hn : (es.map editNumber).Nodup) (rs : List Record) (n : Fin 64) :
    projectedLive rs es n = (recordAt (projected rs es) n).isSome := by
  rw [recordAt_projected hn]
  unfold projectedLive
  split
  · next h => rw [h]; rfl
  · next e hne h =>
    rw [h]
    cases e with
    | add r => rfl
    | modify r => rfl
    | retire m => exact absurd rfl (hne m)
  · next h => rw [h]

theorem liveIn_eq (rs : List Record) (n : Fin 64) : liveIn rs n = (recordAt rs n).isSome := by
  unfold liveIn recordAt
  rw [Bool.eq_iff_iff, List.find?_isSome]
  simp

end

/-! ### Bindings -/

theorem conflicts_symm (r q : Record) : conflicts r q = conflicts q r := by
  simp only [conflicts, eq_comm]

theorem conflictFree_iff (rs : List Record) : conflictFree rs = true ↔
    ∀ r ∈ rs, ∀ q ∈ rs, r.number ≠ q.number → conflicts r q = false := by
  simp only [conflictFree, List.all_eq_true, Bool.or_eq_true, decide_eq_true_eq, Bool.not_eq_true', or_iff_not_imp_left]

/-! ### The edit held after a merge -/

section
variable {es : List Edit} {e new : Edit} {n m : Fin 64}

theorem heldEdit_append (h : heldEdit es (editNumber e) = none) :
    heldEdit (es ++ [e]) m = if m = editNumber e then some e else heldEdit es m := by
  unfold heldEdit at *
  rw [List.find?_append]
  split
  · next hm => subst hm; simp [h]
  · next hm => simp [Ne.symm hm]

theorem editNumber_of_heldEdit {held : Edit} (h : heldEdit es n = some held) : editNumber held = n := by
  simpa using List.find?_some h

theorem heldEdit_replaceEdit (hnew : editNumber new = n) (h : heldEdit es n ≠ none) :
    heldEdit (replaceEdit es n new) m = if m = n then some new else heldEdit es m := by
  unfold heldEdit replaceEdit at *
  induction es with
  | nil => exact absurd rfl h
  | cons x xs ih =>
    rw [List.map_cons, List.find?_cons, List.find?_cons]
    rw [List.find?_cons] at h
    by_cases hx : editNumber x = n
    · by_cases hm : m = n
      · subst hm; simp [hx, hnew]
      · have hrest : (xs.map fun x => if editNumber x = n then new else x).find? (fun x => decide (editNumber x = m)) =
            xs.find? (fun x => decide (editNumber x = m)) := by
          clear ih h
          induction xs with
          | nil => rfl
          | cons y ys ih =>
            rw [List.map_cons, List.find?_cons, List.find?_cons, ih]
            by_cases hy : editNumber y = n
            · simp [hy, hnew, Ne.symm hm]
            · simp [hy]
        simp [hx, hnew, Ne.symm hm, hm, hrest]
    · simp only [hx, decide_false] at h
      rw [ih h]
      by_cases hm : m = n
      · subst hm; simp [hx]
      · simp [hx, hm]

theorem heldEdit_removeEdit : heldEdit (removeEdit es n) m = if m = n then none else heldEdit es m := by
  unfold heldEdit removeEdit
  rw [List.find?_filter]
  split
  · next h =>
    subst h
    simp
  · next h =>
    congr 1
    funext x
    by_cases hx : editNumber x = m
    · simp [hx, h]
    · simp [hx]

end

/-! ### What the merge of a request keeps -/

/-- The edit fits the records: an ADD a FREE number, a MODIFY or a RETIRE a LIVE one (R8). -/
def fitsIn (rs : List Record) (e : Edit) : Prop := (recordAt rs (editNumber e)).isSome = !isAdd e

theorem fitsIn_iff (slots : List Slot) (e : Edit) : fitsIn (recordsOf slots) e ↔ editFits slots e = true := by
  unfold fitsIn
  rw [recordAt_recordsOf, Option.isSome_map]
  cases e <;> simp [editFits, isAdd, editNumber]

/-- A change set that fits its table: bounded, of distinct numbers, and with no shared port side before or after it (R8,
R12). -/
structure ChangesFit (rs : List Record) (es : List Edit) : Prop where
  length : es.length ≤ 16
  nodup : (es.map editNumber).Nodup
  fits : ∀ e ∈ es, fitsIn rs e
  apart : conflictFree rs = true
  projectedApart : conflictFree (projected rs es) = true

/-- No edit fits every table without shared port sides. -/
theorem changesFit_nil {rs : List Record} (h : conflictFree rs = true) : ChangesFit rs [] where
  length := Nat.zero_le _
  nodup := List.nodup_nil
  fits := by simp
  apart := h
  projectedApart := h

section
variable {rs : List Record} {es es' : List Edit} {e : Edit}

/-- The merge of an accepted request: it joins at the end, it takes a held ADD away, or it leaves an edit with its own
record in place of the held one (R11). -/
inductive Merge (rs : List Record) (es : List Edit) (e : Edit) : List Edit → Prop where
  | joins (h : heldEdit es (editNumber e) = none) (hfit : fitsIn rs e) : Merge rs es e (es ++ [e])
  | removes (r : Record) (h : heldEdit es (editNumber e) = some (.add r)) (he : editRecord e = none) :
      Merge rs es e (removeEdit es (editNumber e))
  | replaces (new : Edit) (h : heldEdit es (editNumber e) ≠ none) (hn : editNumber new = editNumber e)
      (hr : editRecord new = editRecord e) (hfit : fitsIn rs new) : Merge rs es e (replaceEdit es (editNumber e) new)

theorem mem_of_heldEdit {n : Fin 64} (h : heldEdit es n = some e) : e ∈ es := List.mem_of_find?_eq_some h

theorem existenceRefusal_eq_none_iff :
    existenceRefusal rs es e = none ↔ projectedLive rs es (editNumber e) = !isAdd e := by
  cases e <;> simp [existenceRefusal, isAdd]

theorem fitsIn_of_number {new : Edit} (h : fitsIn rs e) (hn : editNumber new = editNumber e) (ha : isAdd new = isAdd e) :
    fitsIn rs new := by
  unfold fitsIn at *
  rw [hn, ha]
  exact h

/-- Past test 5 the merge is one of its three kinds. -/
theorem merge_of_exists (hfit : ∀ x ∈ es, fitsIn rs x) (h : existenceRefusal rs es e = none) :
    Merge rs es e (mergeEdit es e) := by
  cases hheld : heldEdit es (editNumber e) with
  | none =>
    have hmerge : mergeEdit es e = es ++ [e] := by simp [mergeEdit, hheld]
    rw [existenceRefusal_eq_none_iff, projectedLive_of_unheld hheld, liveIn_eq] at h
    exact hmerge ▸ .joins hheld h
  | some held =>
    have hnum : editNumber e = editNumber held := (editNumber_of_heldEdit hheld).symm
    have hheldFits := hfit held (mem_of_heldEdit hheld)
    have hne : heldEdit es (editNumber e) ≠ none := by simp [hheld]
    rw [existenceRefusal_of_held hheld] at h
    cases held with
    | add r₀ => cases e with
      | add r => simp [mergeRow] at h
      | modify r =>
        have hmerge : mergeEdit es (.modify r) = replaceEdit es r.number (.add r) := by unfold mergeEdit; dsimp only; rw [hheld]; rfl
        exact hmerge ▸ .replaces (.add r) hne rfl rfl (fitsIn_of_number hheldFits hnum rfl)
      | retire n =>
        have hmerge : mergeEdit es (.retire n) = removeEdit es n := by unfold mergeEdit; dsimp only; rw [hheld]; rfl
        exact hmerge ▸ .removes r₀ hheld rfl
    | modify r₀ => cases e with
      | add r => simp [mergeRow] at h
      | modify r =>
        have hmerge : mergeEdit es (.modify r) = replaceEdit es r.number (.modify r) := by unfold mergeEdit; dsimp only; rw [hheld]; rfl
        exact hmerge ▸ .replaces (.modify r) hne rfl rfl (fitsIn_of_number hheldFits hnum rfl)
      | retire n =>
        have hmerge : mergeEdit es (.retire n) = replaceEdit es n (.retire n) := by unfold mergeEdit; dsimp only; rw [hheld]; rfl
        exact hmerge ▸ .replaces (.retire n) hne rfl rfl (fitsIn_of_number hheldFits hnum rfl)
    | retire n₀ => cases e with
      | add r =>
        have hmerge : mergeEdit es (.add r) = replaceEdit es r.number (.modify r) := by unfold mergeEdit; dsimp only; rw [hheld]; rfl
        exact hmerge ▸ .replaces (.modify r) hne rfl rfl (fitsIn_of_number hheldFits hnum rfl)
      | modify r => simp [mergeRow] at h
      | retire n => simp [mergeRow] at h

/-- What an accepted request has passed: the merge of test 5, test 6, and room for an edit that joins. -/
theorem merge_of_ok (hfit : ChangesFit rs es) (h : stageEdit rs es e = .ok es') : Merge rs es e es' ∧
    bindingTaken rs es e = false ∧ (heldEdit es (editNumber e) = none → es.length < 16) := by
  unfold stageEdit at h
  split at h
  · cases h
  · next hexist =>
    split at h
    · cases h
    · next hbind =>
      split at h
      · cases h
      · next hroom =>
        cases h
        refine ⟨?_, Bool.eq_false_iff.2 hbind, fun hnone => ?_⟩
        · exact merge_of_exists hfit.fits hexist
        · simp only [hnone, Option.isNone_none, true_and, Config.changeSetSize, not_le] at hroom
          exact hroom

/-- The projected table after a merge: only the number of the request reads another record, the request's own (R9). -/
theorem Merge.recordAt (h : Merge rs es e es') (hfit : ChangesFit rs es) (hnodup : (es'.map editNumber).Nodup)
    (m : Fin 64) : recordAt (projected rs es') m =
      if m = editNumber e then editRecord e else recordAt (projected rs es) m := by
  rw [recordAt_projected hnodup, recordAt_projected hfit.nodup]
  cases h with
  | joins hnone _ =>
    rw [heldEdit_append hnone]
    by_cases hm : m = editNumber e <;> simp [hm]
  | removes r hheld he =>
    rw [heldEdit_removeEdit]
    by_cases hm : m = editNumber e
    · have hfree : Machine.recordAt rs (editNumber e) = none := by
        have := hfit.fits _ (mem_of_heldEdit hheld)
        unfold fitsIn at this
        rw [editNumber_of_heldEdit hheld] at this
        simpa [isAdd] using this
      simp [hm, hfree, he]
    · simp [hm]
  | replaces new hne hn hr _ =>
    rw [heldEdit_replaceEdit hn hne]
    by_cases hm : m = editNumber e <;> simp [hm, hr]

theorem Merge.nodup (h : Merge rs es e es') (hn : (es.map editNumber).Nodup) : (es'.map editNumber).Nodup := by
  cases h with
  | joins hnone _ =>
    rw [List.map_append, List.map_cons, List.map_nil, ← List.concat_eq_append]
    refine hn.concat fun hmem => ?_
    obtain ⟨x, hx, hxe⟩ := List.mem_map.1 hmem
    have := List.find?_eq_none.1 hnone x hx
    simp [hxe] at this
  | removes r _ _ => exact hn.sublist (List.Sublist.map _ List.filter_sublist)
  | replaces new _ hnew _ _ =>
    have hsame : (replaceEdit es (editNumber e) new).map editNumber = es.map editNumber := by
      unfold replaceEdit
      rw [List.map_map]
      refine List.map_congr_left fun x _ => ?_
      by_cases hx : editNumber x = editNumber e <;> simp [hx, hnew]
    rw [hsame]
    exact hn

theorem Merge.fits (h : Merge rs es e es') (hfit : ∀ x ∈ es, fitsIn rs x) : ∀ x ∈ es', fitsIn rs x := by
  cases h with
  | joins _ he =>
    intro x hx
    rcases List.mem_append.1 hx with hx | hx
    · exact hfit x hx
    · exact List.mem_singleton.1 hx ▸ he
  | removes r _ _ => exact fun x hx => hfit x (List.mem_filter.1 hx).1
  | replaces new _ _ _ hnew =>
    intro x hx
    obtain ⟨y, hy, rfl⟩ := List.mem_map.1 hx
    split
    · exact hnew
    · exact hfit y hy

theorem Merge.length (h : Merge rs es e es') (hl : es.length ≤ 16)
    (hroom : heldEdit es (editNumber e) = none → es.length < 16) : es'.length ≤ 16 := by
  cases h with
  | joins hnone _ =>
    have := hroom hnone
    rw [List.length_append, List.length_singleton]
    omega
  | removes r _ _ => exact (List.length_filter_le _ _).trans hl
  | replaces new _ _ _ _ => exact (List.length_map _).trans_le hl

/-- A staging request that is accepted leaves a change set that fits (R8, R10 to R12). -/
theorem changesFit_of_stageEdit (hs : Sorted rs) (hfit : ChangesFit rs es) (h : stageEdit rs es e = .ok es') :
    ChangesFit rs es' := by
  obtain ⟨hmerge, hbind, hroom⟩ := merge_of_ok hfit h
  have heq : es' = mergeEdit es e := by
    unfold stageEdit at h
    split at h
    · cases h
    · split_ifs at h
      cases h
      rfl
  have hnodup := hmerge.nodup hfit.nodup
  have hold {q : Record} (hq : q ∈ projected rs es') (hne : q.number ≠ editNumber e) : q ∈ projected rs es := by
    rw [mem_iff_recordAt (sorted_projected hs), hmerge.recordAt hfit hnodup, if_neg hne] at hq
    exact (mem_iff_recordAt (sorted_projected hs)).2 hq
  have hnew {r : Record} (hr : r ∈ projected rs es') (he : r.number = editNumber e) (q : Record)
      (hq : q ∈ projected rs es') (hne : q.number ≠ r.number) : conflicts r q = false := by
    rw [mem_iff_recordAt (sorted_projected hs), hmerge.recordAt hfit hnodup, if_pos he] at hr
    unfold bindingTaken at hbind
    rw [hr, ← heq] at hbind
    have := List.any_eq_false.1 hbind q hq
    simpa [hne] using this
  refine ⟨hmerge.length hfit.length hroom, hnodup, hmerge.fits hfit.fits, hfit.apart, ?_⟩
  rw [conflictFree_iff]
  intro r hr q hq hne
  by_cases hre : r.number = editNumber e
  · exact hnew hr hre q hq hne.symm
  · by_cases hqe : q.number = editNumber e
    · rw [conflicts_symm]
      exact hnew hq hqe r hr hne
    · exact (conflictFree_iff _).1 hfit.projectedApart r (hold hr hre) q (hold hq hqe) hne

end

end Sys2Proof.Slots
end

section
/-! The operations that take cells out of queues or write counters: slot by slot the table keeps its records and holds no
more cells than before (R167, R170, R172, R174, R178). -/

-- One declaration after another: side by side, the proofs of the text need more memory than its check allows.
set_option Elab.async false

namespace Sys2Proof.Slots

open Sys2Proof Sys2Proof.Machine Sys2Proof.Claims Sys2Proof.Frame

/-- Between the two states the slots only gave up cells. -/
def Sheds (s t : State) : Prop := Ascending s.table.slots → Thinned s.table.slots t.table.slots

section
variable {s t u : State}

theorem Sheds.refl (s : State) : Sheds s s := fun _ => .refl _

theorem Thinned.ascending {xs ys : List Slot} (h : Thinned xs ys) (hs : Ascending xs) : Ascending ys :=
  ascending_of_records h.records hs

theorem Sheds.then (h : Sheds s t) (h' : Sheds t u) : Sheds s u := fun hs =>
  (h hs).comp (h' ((h hs).ascending hs))

theorem sheds_of_slots (h : t.table.slots = s.table.slots) : Sheds s t := fun _ => h ▸ .refl _

/-- Between the two states only counters of the slots were written. -/
def Counts (s t : State) : Prop := Ascending s.table.slots → Recounted s.table.slots t.table.slots

theorem Counts.sheds (h : Counts s t) : Sheds s t := fun hs => (h hs).thinned

theorem Counts.then (h : Counts s t) (h' : Counts t u) : Counts s u := fun hs =>
  (h hs).comp (h' ((h hs).thinned.ascending hs))

theorem counts_of_slots (h : t.table.slots = s.table.slots) : Counts s t := fun _ => h ▸ .refl _

theorem sheds_of_thinned (h : Thinned s.table.slots t.table.slots) : Sheds s t := fun _ => h

end

section
variable (s : State)

theorem thins_trimSlot (limit : Nat) (x : Slot) : Thins x (trimSlot limit x) := by
  unfold trimSlot
  split
  · exact .refl x
  · exact ⟨rfl, by simp⟩

theorem trimSlot_length_le (limit : Nat) (x : Slot) : (trimSlot limit x).queue.length ≤ limit := by
  unfold trimSlot
  split
  · assumption
  · simp

theorem sheds_trimQueues (limit : Fin 64 → Nat) : Sheds s (trimQueues limit s) := by
  refine sheds_of_thinned ?_
  rw [trimQueues_slots]
  exact thinned_map (fun x => thins_trimSlot _ x) _

/-- What a move of the link to CALLING or STANDBY leaves of the slots: every queue is empty (R174). -/
theorem dropAll_slots : (dropAll s).table.slots = s.table.slots.map (trimSlot 0) := by
  obtain ⟨-, -, -, -, -, htable, -⟩ := dropAll_fields s
  rw [htable]

/-- A LIVE slot written with one that keeps its record and holds no more cells. -/
theorem sheds_writeCounted {x y : Slot} {n : Fin 64} (hx : slotAt s.table.slots n = some x) (h : Thins x y) (b : Bool) :
    Sheds s (writeCounted y b s) := fun hs =>
  writeCounted_slots y b s ▸ thinned_putSlot hs (mem_of_slotAt hx).1 h

theorem thins_takeCells (n : Nat) (x : Slot) : Thins x (takeCells n x) := ⟨rfl, by simp [takeCells]⟩

theorem counts_writeCounted {x y : Slot} (hx : x ∈ s.table.slots) (h : Recounts x y) (b : Bool) :
    Counts s (writeCounted y b s) := fun hs => by
  rw [writeCounted_slots]
  exact forall₂_putSlot Recounts.refl hs hx (congrArg Record.number h.record) h

theorem sheds_sendEntry (e : Entry) : Sheds s (sendEntry e s).2 := by
  unfold sendEntry
  dsimp only
  split
  · exact .refl s
  · split
    · exact .refl s
    · next x hx => exact sheds_writeCounted s hx (thins_takeCells _ _) _

theorem sheds_sendEntries (es : List Entry) : Sheds s (sendEntries es s).2 := by
  induction es generalizing s with
  | nil => exact .refl s
  | cons e es ih => exact (sheds_sendEntry s e).then (ih _)

theorem sheds_takeForSending : Sheds s (takeForSending s).2 := by
  unfold takeForSending
  split
  · split
    · exact .refl s
    · exact sheds_sendEntries s _
  · exact .refl s

theorem counts_deliverEntry (e : Entry) : Counts s (deliverEntry s e) := by
  unfold deliverEntry
  split
  · exact counts_of_slots rfl
  · next x hx =>
    have hcounted : Counts s (writeCounted (countPositions (judgeEntry s e) x) (positionsSaturate (judgeEntry s e) x) s) :=
      counts_writeCounted s (y := countPositions (judgeEntry s e) x) (mem_of_slotAt hx).1 ⟨rfl, rfl⟩ _
    exact hcounted.then (counts_of_slots rfl)

theorem counts_deliverEntries (es : List Entry) : Counts s (es.foldl deliverEntry s) := by
  induction es generalizing s with
  | nil => exact counts_of_slots rfl
  | cons e es ih => exact (counts_deliverEntry s e).then (ih _)

theorem counts_deliverSuperframe : Counts s (deliverSuperframe s) := by
  have hnone : Counts s { s with service := { s.service with delivered := [] } } := counts_of_slots rfl
  unfold deliverSuperframe
  dsimp only
  split
  · split
    · exact hnone
    · exact hnone.then (counts_deliverEntries _ _)
  · exact hnone

theorem counts_clearCircuit (n : Fin 64) : Counts s (clearCircuit n s) := fun _ =>
  List.forall₂_map_right_iff.2 (List.forall₂_same.2 fun x _ => by split <;> exact ⟨rfl, rfl⟩)

theorem sheds_softReset : Sheds s (softReset s) :=
  sheds_of_thinned (thinned_map (f := Slot.softReset) (fun _ => ⟨rfl, Nat.zero_le _⟩) _)

theorem sheds_judgeRunEnd : Sheds s (judgeRunEnd s) := by
  unfold judgeRunEnd
  split
  · next r _ =>
    have hplaced : Sheds s { s with
        planner := placePlan s.orders.stamp (computePlan r.stamp r.view r.table) s.planner
        service := { s.service with limits := some (computePlan r.stamp r.view r.table) }
        orders := if s.role = .mast then { s.orders with ready := some r.stamp } else s.orders } := sheds_of_slots rfl
    exact hplaced.then (sheds_trimQueues _ _)
  · exact .refl s

end

end Sys2Proof.Slots
end

section
/-! That the state of one role is empty at the other is kept by every operation (R24, 0.2). -/

-- One declaration after another: side by side, the proofs of the text need more memory than its check allows.
set_option Elab.async false

namespace Sys2Proof.RolePromise

open Sys2Proof Sys2Proof.Machine Sys2Proof.Claims Sys2Proof.Frame

/-- The orders of a mast end hold nothing of the truck end's (R24). -/
structure MastIdle (o : Orders) : Prop where
  pending : o.pending = none
  commit : o.commit = none
  fullSync : o.fullSync = none

/-- The orders of a truck end hold nothing of the mast end's (R24). -/
structure TruckIdle (o : Orders) : Prop where
  heard : o.heard = none
  mismatch : o.mismatch = false
  ready : o.ready = none

/-- The state that belongs to one role is empty at the other. -/
structure Apart (s : State) : Prop where
  mast : s.role = .mast → s.changes = [] ∧ MastIdle s.orders ∧ s.chan.fromMast = none
  truck : s.role = .truck → s.stage = StageArea.empty ∧ TruckIdle s.orders ∧ s.chan.fromTruck = none

theorem apart_iff (s : State) : Apart s ↔ RoleStateApart s := by
  constructor
  · rintro ⟨hmast, htruck⟩
    refine ⟨fun hr => ?_, fun hr => ?_⟩
    · obtain ⟨hnil, ⟨hp, hc, hf⟩, hfrom⟩ := hmast hr
      exact ⟨hnil, hp, hc, hf, hfrom⟩
    · obtain ⟨hstage, ⟨hh, hm, hready⟩, hfrom⟩ := htruck hr
      exact ⟨hstage, hh, hm, hready, hfrom⟩
  · rintro ⟨hmast, htruck⟩
    refine ⟨fun hr => ?_, fun hr => ?_⟩
    · obtain ⟨hnil, hp, hc, hf, hfrom⟩ := hmast hr
      exact ⟨hnil, ⟨hp, hc, hf⟩, hfrom⟩
    · obtain ⟨hstage, hh, hm, hready, hfrom⟩ := htruck hr
      exact ⟨hstage, ⟨hh, hm, hready⟩, hfrom⟩

/-! ### What the promise takes account of -/

section
variable {s t : State}

/-- A mast end whose orders stay idle, without change set and mast reply. -/
theorem Apart.atMast (h : Apart s) (hr : s.role = .mast) (hrole : t.role = s.role) (hchanges : t.changes = s.changes)
    (ho : MastIdle s.orders → MastIdle t.orders) (hfrom : t.chan.fromMast = s.chan.fromMast) : Apart t where
  mast _ := by
    obtain ⟨hnil, hidle, hnone⟩ := h.mast hr
    exact ⟨hchanges.trans hnil, ho hidle, hfrom.trans hnone⟩
  truck ht := absurd ((hrole.trans hr).symm.trans ht) (by decide)

/-- A truck end whose orders stay idle, without stage area and steering message. -/
theorem Apart.atTruck (h : Apart s) (hr : s.role = .truck) (hrole : t.role = s.role) (hstage : t.stage = s.stage)
    (ho : TruckIdle s.orders → TruckIdle t.orders) (hfrom : t.chan.fromTruck = s.chan.fromTruck) : Apart t where
  mast hm := absurd ((hrole.trans hr).symm.trans hm) (by decide)
  truck _ := by
    obtain ⟨hempty, hidle, hnone⟩ := h.truck hr
    exact ⟨hstage.trans hempty, ho hidle, hfrom.trans hnone⟩

/-- Orders that stay idle for either role, and the channel's reports, change set and stage area as they stand. -/
theorem Apart.idle (h : Apart s) (hrole : t.role = s.role) (hchanges : t.changes = s.changes) (hstage : t.stage = s.stage)
    (hm : MastIdle s.orders → MastIdle t.orders) (ht : TruckIdle s.orders → TruckIdle t.orders)
    (hfm : t.chan.fromMast = s.chan.fromMast) (hft : t.chan.fromTruck = s.chan.fromTruck) : Apart t := by
  cases hr : s.role with
  | mast => exact h.atMast hr hrole hchanges hm hfm
  | truck => exact h.atTruck hr hrole hstage ht hft

/-- The parts that the promise takes no account of. -/
def unroledParts : List Part :=
  .count :: .counting :: .params :: .slots :: .generation :: .planner :: .link :: .exhausted :: .limits :: asideParts

theorem Apart.only (h : Apart s) {ps : List Part} (ho : Only ps s t)
    (hp : ∀ p ∈ ps, p ∈ unroledParts := by decide) : Apart t := by
  have out {p : Part} (hq : p ∉ unroledParts) : p ∉ ps := fun hm => hq (hp p hm)
  have horders := ho.orders (out (by decide))
  have hchan := ho.chan (out (by decide))
  exact h.idle (ho.role (out (by decide))) (ho.changes (out (by decide))) (ho.stage (out (by decide)))
    (fun hm => by rwa [horders]) (fun ht => by rwa [horders]) (by rw [hchan]) (by rw [hchan])

theorem Apart.aside (h : Apart s) (ha : Aside s t) : Apart t :=
  h.idle ha.parts.role ha.parts.changes ha.parts.stage (fun hm => by rwa [ha.parts.orders])
    (fun ht => by rwa [ha.parts.orders]) (by rw [ha.chan]) (by rw [ha.chan])

theorem apart_blank (h : Blank t) : Apart t := by
  have hchanges : t.changes = [] := h.changes
  have horders : t.orders = Orders.cleared := h.orders
  have hchan : t.chan = Channel.cleared := h.chan
  have hstage : t.stage = StageArea.empty := h.stage
  refine ⟨fun _ => ⟨hchanges, ?_, by rw [hchan]; rfl⟩, fun _ => ⟨hstage, ?_, by rw [hchan]; rfl⟩⟩
  · rw [horders]; exact ⟨rfl, rfl, rfl⟩
  · rw [horders]; exact ⟨rfl, rfl, rfl⟩

/-! ### Moves of the link -/

theorem apart_dropAll (h : Apart s) : Apart (dropAll s) := by
  obtain ⟨-, hstage, hchan, -, horders, -, -⟩ := dropAll_fields s
  have ho := dropAll_only s
  refine ⟨fun hr => ?_, fun _ => ⟨hstage, by rw [horders]; exact ⟨rfl, rfl, rfl⟩, by rw [hchan]; rfl⟩⟩
  obtain ⟨hnil, hidle, -⟩ := h.mast (ho.role ▸ hr)
  refine ⟨ho.changes.trans hnil, ?_, by rw [hchan]; rfl⟩
  rw [horders, hidle.commit]
  exact ⟨rfl, rfl, rfl⟩

theorem apart_moveToCalling (h : Apart s) : Apart (moveToCalling s) :=
  ((apart_dropAll h).only (setLink_only _ _)).only (startRound_only _)

theorem apart_moveToStandby (h : Apart s) : Apart (moveToStandby s) :=
  ((apart_dropAll h).only (setLink_only _ _)).only (stopSchedule_only _)

theorem apart_expireWindow (h : Apart s) : Apart (expireWindow s) := by
  unfold expireWindow failRound
  dsimp only
  split_ifs
  · exact h.only (startPhase_only s _ _ _)
  · exact apart_moveToStandby (h.only (raise_only s _))
  · exact (h.only (raise_only s .callFailed)).only (startPhase_only _ _ _ _)
  · exact h

/-! ### Control cycles -/

theorem formMessage_from (s : State) :
    (formMessage s).chan.fromMast = s.chan.fromMast ∧ (formMessage s).chan.fromTruck = s.chan.fromTruck := by
  unfold formMessage
  split
  · exact ⟨rfl, rfl⟩
  · split
    · split <;> exact ⟨rfl, rfl⟩
    · split
      · split <;> exact ⟨rfl, rfl⟩
      · exact ⟨rfl, rfl⟩

theorem formMessage_orders (s : State) :
    (formMessage s).orders = s.orders ∨ (formMessage s).orders = mapTransfers Transfer.sending s.orders := by
  unfold formMessage
  split
  · exact .inl rfl
  · split
    · split
      · exact .inl rfl
      · exact .inr rfl
    · split
      · split <;> exact .inl rfl
      · exact .inl rfl

theorem MastIdle.transfers {o : Orders} (h : MastIdle o) (f : Transfer → Transfer) : MastIdle (mapTransfers f o) :=
  ⟨h.pending, by simp [mapTransfers, h.commit], by simp [mapTransfers, h.fullSync]⟩

theorem apart_formMessage (h : Apart s) : Apart (formMessage s) := by
  have ho := formMessage_only s
  refine h.idle ho.role ho.changes ho.stage (fun hm => ?_) (fun ht => ?_) (formMessage_from s).1 (formMessage_from s).2
  · rcases formMessage_orders s with he | he
    · rwa [he]
    · rw [he]; exact hm.transfers _
  · rcases formMessage_orders s with he | he
    · rwa [he]
    · rw [he]; exact ⟨ht.heard, ht.mismatch, ht.ready⟩

/-- The judgement of a miss leaves the far-end reports (R112). -/
theorem judgeMiss_from (limit : Nat) (c : Channel) :
    (judgeMiss limit c).fromMast = c.fromMast ∧ (judgeMiss limit c).fromTruck = c.fromTruck := by
  unfold judgeMiss
  split <;> exact ⟨rfl, rfl⟩

theorem apart_judgeCycle (h : Apart s) : Apart (judgeCycle s) := by
  have judged : Apart { s with chan := judgeMiss s.params.missLimit s.chan } :=
    h.idle rfl rfl rfl id id (judgeMiss_from _ _).1 (judgeMiss_from _ _).2
  unfold judgeCycle
  dsimp only
  split
  · split
    · exact judged.only (enterHoldover_only _ _)
    · exact judged
  · split
    · exact judged.only (enterHoldover_only _ _)
    · exact judged
  · exact judged.only (countHoldover_only _)
  · exact h

theorem apart_judgeCycleEnd (h : Apart s) : Apart (judgeCycleEnd s) := by
  have limit : Apart (formLimit s) := h.only (ps := [.link]) (.of_eq rfl)
  have judged : Apart (if endsVoid (formLimit s).params.c (formLimit s).count then formLimit s
      else judgeCycle (formLimit s)) := by
    split
    · exact limit
    · exact apart_judgeCycle limit
  unfold judgeCycleEnd endCycle
  dsimp only
  generalize (if endsVoid (formLimit s).params.c (formLimit s).count = true then formLimit s
      else judgeCycle (formLimit s)) = u at judged
  have ended : Apart { u with chan := { u.chan with accepted := false, cycleDue := false } } :=
    judged.idle rfl rfl rfl id id rfl rfl
  split
  · split
    · exact ended
    · exact apart_formMessage ended
  · exact h

theorem apart_judgeHoldover (h : Apart s) : Apart (judgeHoldover s) := by
  unfold judgeHoldover
  split
  · exact apart_formMessage (apart_moveToCalling h)
  · exact h

/-- The stamp of a run that ends is ready at the mast end alone (R146). -/
theorem endRun_orders (r : Run) (s : State) :
    (endRun r s).orders = if s.role = .mast then { s.orders with ready := some r.stamp } else s.orders := by
  unfold endRun trimQueues
  simp only [settlePool_orders, raiseIf_orders]

theorem apart_judgeRunEnd (h : Apart s) : Apart (judgeRunEnd s) := by
  unfold judgeRunEnd
  split
  · next r _ =>
    have ho := endRun_only s r
    cases hr : s.role with
    | mast =>
      refine h.atMast hr ho.role ho.changes (fun hm => ?_) (by rw [ho.chan])
      rw [endRun_orders, if_pos hr]
      exact ⟨hm.pending, hm.commit, hm.fullSync⟩
    | truck =>
      refine h.atTruck hr ho.role ho.stage (fun ht => ?_) (by rw [ho.chan])
      rw [endRun_orders, hr, if_neg (by decide)]
      exact ht
  · exact h

/-! ### Orders taken and commits completed -/

/-- A completed commit leaves the orders but for the commit and its record (R157). -/
theorem completeCommit_orders (j : CommitJob) (epoch : Count) (moved : Bool) (s : State) :
    (completeCommit j epoch moved s).orders = { s.orders with
      commit := none, done := some ⟨successor s.table.generation, epoch, moved, j.code⟩ } := by
  unfold completeCommit applyChangeSet
  simp only [raise_table, raise_orders, putTable_table]
  rw [(putTable_only s _ _ _).orders]

theorem apart_completeCommit (h : Apart s) (hr : s.role = .truck) (j : CommitJob) (epoch : Count) (moved : Bool) :
    Apart (completeCommit j epoch moved s) := by
  have ho := completeCommit_only s j epoch moved
  refine h.atTruck hr ho.role ho.stage (fun ht => ?_) (by rw [ho.chan])
  rw [completeCommit_orders]
  exact ⟨ht.heard, ht.mismatch, ht.ready⟩

theorem apart_completeOrdered (h : Apart s) (hr : s.role = .truck) : Apart (completeOrdered s) := by
  unfold completeOrdered
  split
  · split
    · exact apart_completeCommit h hr _ _ _
    · exact h
  · exact h

theorem apart_judgeCompletion (h : Apart s) : Apart (judgeCompletion s) := by
  unfold judgeCompletion
  split
  · split
    · split
      · next hd => exact apart_completeCommit h hd.2 _ _ _
      · exact h
    · exact h
  · exact h

theorem apart_takeAtTruck (h : Apart s) (hr : s.role = .truck) (o : Order) : Apart (takeAtTruck o s) := by
  have done : Apart (if o.kind = .commit then completeOrdered s else s) ∧
      (if o.kind = .commit then completeOrdered s else s).role = .truck := by
    split
    · exact ⟨apart_completeOrdered h hr, (completeOrdered_only s).role.trans hr⟩
    · exact ⟨h, hr⟩
  unfold takeAtTruck
  dsimp only
  generalize (if o.kind = .commit then completeOrdered s else s) = u at done
  obtain ⟨done, hru⟩ := done
  have ended : Apart { putInForce o.stamp o.view u with orders := endNeeds o.kind (putInForce o.stamp o.view u).orders } :=
    done.atTruck hru rfl rfl (fun ht => ⟨ht.heard, ht.mismatch, ht.ready⟩) rfl
  exact ((ended.only (raise_only _ _)).only (raiseIf_only _ _ _)).only (linkTakes_only _)

/-- A pending order that is due is the truck end's (R143). -/
theorem role_of_takeDueTruck {o : Order} (h : takeDueTruck s = some o) : s.role = .truck := by
  unfold takeDueTruck at h
  split at h
  · assumption
  · cases h

/-- A heard order that is due is the mast end's (R147). -/
theorem role_of_takeDueMast {x : HeardOrder} (h : takeDueMast s = some x) : s.role = .mast := by
  unfold takeDueMast at h
  split at h
  · assumption
  · cases h

theorem apart_judgeTakeTruck (h : Apart s) : Apart (judgeTakeTruck s) := by
  unfold judgeTakeTruck
  split
  · next o ho => exact apart_takeAtTruck h (role_of_takeDueTruck ho) o
  · exact h

theorem apart_takeAtMast (h : Apart s) (hr : s.role = .mast) (x : HeardOrder) : Apart (takeAtMast x s) := by
  have ho := applyStage_only s x.source
  have applied : Apart (applyStage x.source s) :=
    h.atMast hr ho.role ho.changes (fun hm => by rwa [ho.orders]) (by rw [ho.chan])
  have hra : (applyStage x.source s).role = .mast := ho.role.trans hr
  unfold takeAtMast
  dsimp only
  generalize applyStage x.source s = u at applied hra
  have cleared : Apart { putInForce x.order.stamp x.order.view u with
      orders := { (putInForce x.order.stamp x.order.view u).orders with heard := none, mismatch := false } } :=
    applied.atMast hra rfl rfl (fun hm => ⟨hm.pending, hm.commit, hm.fullSync⟩) rfl
  exact cleared.only (linkTakes_only _)

theorem apart_judgeTakeMast (h : Apart s) : Apart (judgeTakeMast s) := by
  unfold judgeTakeMast
  split
  · next x hx => exact apart_takeAtMast h (role_of_takeDueMast hx) x
  · exact h

/-! ### Steering messages at the mast end -/

theorem apart_judgePlannable (h : Apart s) (hr : s.role = .mast) (o : OrderField) : Apart (judgePlannable o s) := by
  have ho := judgePlannable_only s o
  refine h.atMast hr ho.role ho.changes (fun hm => ?_) (by rw [ho.chan])
  unfold judgePlannable
  split <;> exact ⟨hm.pending, hm.commit, hm.fullSync⟩

theorem apart_rejudgeHeard (h : Apart s) (hr : s.role = .mast) : Apart (rejudgeHeard s) := by
  unfold rejudgeHeard
  split
  · split
    · exact apart_judgePlannable h hr _
    · exact h
  · exact h

theorem apart_hearNew (h : Apart s) (hr : s.role = .mast) (o : OrderField) : Apart (hearNew o s) := by
  have heard : Apart (abandonRunOf s.orders.heard (judgePlannable o s)) :=
    (apart_judgePlannable h hr o).only (abandonRunOf_only _ _)
  have hrole : (abandonRunOf s.orders.heard (judgePlannable o s)).role = .mast :=
    ((abandonRunOf_only _ _).role.trans (judgePlannable_only s o).role).trans hr
  unfold hearNew
  dsimp only
  split
  · split
    · exact apart_takeAtMast heard hrole _
    · exact heard
  · exact heard

theorem apart_hearOrders (h : Apart s) (hr : s.role = .mast) (m : Steering) : Apart (hearOrders m s) := by
  have again := apart_rejudgeHeard h hr
  have hrole : (rejudgeHeard s).role = .mast := (rejudgeHeard_only s).role.trans hr
  unfold hearOrders
  split
  · split
    · exact again
    · split
      · exact again
      · exact apart_hearNew h hr _
  · dsimp only
    split
    · have marked : Apart { rejudgeHeard s with orders := { (rejudgeHeard s).orders with mismatch := true } } :=
        again.atMast hrole rfl rfl (fun hm => ⟨hm.pending, hm.commit, hm.fullSync⟩) rfl
      exact marked.only (raise_only _ _)
    · exact again

/-- A steering message is accepted at the mast end alone (R105). -/
theorem role_of_steeringAcceptable {m : Steering} {n : Count} (h : steeringAcceptable m n s = true) : s.role = .mast := by
  simp only [steeringAcceptable, Bool.and_eq_true, decide_eq_true_eq] at h
  exact h.1.1

/-- The state of the mast end that has noted a steering message, before its item and order are judged (R107). -/
def steeringNoted (m : Steering) (s : State) : State :=
  linkHears (takeTiming m { s with chan := { channelHears s.chan with fromTruck := some (m, s.count) } })

theorem hearSteering_eq (m : Steering) (s : State) : hearSteering m s =
    { hearOrders m (hearItem m (steeringNoted m s)) with
      chan := { (hearOrders m (hearItem m (steeringNoted m s))).chan with echo := some m.cycle } } := rfl

theorem steeringNoted_only (m : Steering) (s : State) : Only [.params, .chan, .link, .flags] s (steeringNoted m s) :=
  (Only.trans (.of_eq rfl) ((takeTiming_only _ m).mono (qs := [.params, .chan, .link, .flags]))).also (linkHears_only _)

theorem takeTiming_fromMast (m : Steering) (s : State) : (takeTiming m s).chan.fromMast = s.chan.fromMast := by
  unfold takeTiming
  split <;> rfl

theorem apart_steeringNoted (h : Apart s) (hr : s.role = .mast) (m : Steering) : Apart (steeringNoted m s) := by
  have ho := steeringNoted_only m s
  refine h.atMast hr ho.role ho.changes (fun hm => by rwa [ho.orders]) ?_
  unfold steeringNoted
  rw [(linkHears_only _).chan, takeTiming_fromMast]
  rfl

theorem apart_chooseSteering (h : Apart s) (m : Steering) (n : Count) : Apart (chooseSteering m n s) := by
  unfold chooseSteering
  split
  · next ha =>
    have hr := role_of_steeringAcceptable ha
    have noted := apart_steeringNoted h hr m
    have hrn : (steeringNoted m s).role = .mast := (steeringNoted_only m s).role.trans hr
    have hi := hearItem_only (steeringNoted m s) m
    have items : Apart (hearItem m (steeringNoted m s)) :=
      noted.atMast hrn hi.role hi.changes (fun hm => by rwa [hi.orders]) (by rw [hi.chan])
    have hri := hi.role.trans hrn
    have ordered := apart_hearOrders items hri m
    rw [hearSteering_eq]
    exact ordered.atMast ((hearOrders_only _ m).role.trans hri) rfl rfl id rfl
  · exact h

/-! ### Mast replies, issuing and full syncs at the truck end -/

theorem abandonCommit_truckIdle (h : TruckIdle s.orders) : TruckIdle (abandonCommit s).orders := by
  rw [abandonCommit_orders]
  exact ⟨h.heard, h.mismatch, h.ready⟩

theorem readReply_truckIdle (h : TruckIdle s.orders) (m : Reply) : TruckIdle (readReply m s).orders := by
  have decided : TruckIdle (decideSyncing m s).orders := by
    unfold decideSyncing
    split_ifs <;> exact ⟨h.heard, h.mismatch, h.ready⟩
  unfold readReply judgeMismatch markResync
  dsimp only
  generalize decideSyncing m s = u at decided
  have heard : TruckIdle (transfersHear m u.orders) := ⟨decided.heard, decided.mismatch, decided.ready⟩
  split_ifs
  · exact ⟨heard.heard, heard.mismatch, heard.ready⟩
  · have abandoned := abandonCommit_truckIdle (s := raise .planMismatch { u with orders := transfersHear m u.orders }) heard
    exact ⟨abandoned.heard, abandoned.mismatch, abandoned.ready⟩
  · exact ⟨heard.heard, heard.mismatch, heard.ready⟩
  · exact ⟨heard.heard, heard.mismatch, heard.ready⟩
  · exact heard

/-- A mast reply is accepted at the truck end alone (R105). -/
theorem role_of_replyAcceptable {m : Reply} (h : replyAcceptable m s = true) : s.role = .truck := by
  simp only [replyAcceptable, Bool.and_eq_true, decide_eq_true_eq] at h
  exact h.1.1

/-- The state of the truck end that has noted a mast reply, before it is read (R110). -/
def replyNoted (m : Reply) (s : State) : State :=
  linkHears { s with chan := { channelHears s.chan with fromMast := some (m, s.count) } }

theorem hearReply_eq (m : Reply) (s : State) : hearReply m s = readReply m (replyNoted m s) := rfl

theorem replyNoted_only (m : Reply) (s : State) : Only [.chan, .link, .flags] s (replyNoted m s) :=
  Only.trans (.of_eq rfl) ((linkHears_only _).mono (qs := [.chan, .link, .flags]))

theorem apart_chooseReply (h : Apart s) (m : Reply) : Apart (chooseReply m s) := by
  unfold chooseReply
  split
  · next ha =>
    have hr := role_of_replyAcceptable ha
    have hn := replyNoted_only m s
    have ho := readReply_only (replyNoted m s) m
    rw [hearReply_eq]
    refine h.atTruck hr (ho.role.trans hn.role) (ho.stage.trans hn.stage)
      (fun ht => readReply_truckIdle (by rwa [hn.orders]) m) ?_
    rw [ho.chan]
    unfold replyNoted
    rw [(linkHears_only _).chan]
    rfl
  · exact h

/-- A resync full sync that is due is the truck end's (R159). -/
theorem role_of_fullSyncDue (h : fullSyncDue s = true) : s.role = .truck := by
  simp only [fullSyncDue, Bool.and_eq_true, decide_eq_true_eq] at h
  exact h.1.1.1.1

theorem apart_judgeFullSync (h : Apart s) : Apart (judgeFullSync s) := by
  unfold judgeFullSync
  split
  · next hd =>
    exact h.atTruck (role_of_fullSyncDue hd) rfl rfl (fun ht => ⟨ht.heard, ht.mismatch, ht.ready⟩) rfl
  · exact h

/-- An order that is issued leaves what the mast end keeps of orders (R140). -/
theorem judgeIssue_truckIdle (h : TruckIdle s.orders) : TruckIdle (judgeIssue s).orders := by
  have kept {t : State} (hk : t.orders.heard = s.orders.heard ∧ t.orders.mismatch = s.orders.mismatch ∧
      t.orders.ready = s.orders.ready) : TruckIdle t.orders :=
    ⟨hk.1.trans h.heard, hk.2.1.trans h.mismatch, hk.2.2.trans h.ready⟩
  refine kept ?_
  unfold judgeIssue issueByNeed
  split
  · split
    · split
      · split <;> exact ⟨rfl, rfl, rfl⟩
      · split
        · split_ifs <;> exact ⟨rfl, rfl, rfl⟩
        · split_ifs <;> exact ⟨rfl, rfl, rfl⟩
    · exact ⟨rfl, rfl, rfl⟩
  · exact ⟨rfl, rfl, rfl⟩

theorem apart_judgeIssue (h : Apart s) : Apart (judgeIssue s) := by
  have ho := judgeIssue_only s
  cases hr : s.role with
  | truck => exact h.atTruck hr ho.role ho.stage judgeIssue_truckIdle (by rw [ho.chan])
  | mast =>
    unfold judgeIssue
    rw [if_neg fun hd => absurd (hr.symm.trans hd.1) (by decide)]
    exact h

/-! ### Requests -/

theorem apart_abandonCommit (h : Apart s) (hr : s.role = .truck) : Apart (abandonCommit s) := by
  have ho := abandonCommit_only s
  exact h.atTruck hr ho.role ho.stage abandonCommit_truckIdle (by rw [ho.chan])

/-- A COMMIT that is not refused is at the truck end (R151). -/
theorem role_of_commitRefusal {code : Nat} (h : commitRefusal code s = none) : s.role = .truck := by
  unfold commitRefusal at h
  split at h
  · cases h
  · next hr => exact not_not.1 hr

end

/-- Every operation keeps the roles' states apart. -/
theorem apart_kept : Kept Apart where
  aside ha h := h.aside ha
  blank h := apart_blank h
  window h := apart_expireWindow h
  gap h := h.only (expireGap_only _)
  recallWait h := h.only (expireRecall_only _)
  runEnd h := apart_judgeRunEnd h
  cycleEnd h := apart_judgeCycleEnd h
  holdover h := apart_judgeHoldover h
  takeTruck h := apart_judgeTakeTruck h
  takeMast h := apart_judgeTakeMast h
  completion h := apart_judgeCompletion h
  evaluate l input h := h.only (evaluateLane_only _ l input)
  deliver h := h.only (deliverSuperframe_only _)
  steering m n h := apart_chooseSteering h m n
  reply m h := apart_chooseReply h m
  fullSync h := apart_judgeFullSync h
  issue h := apart_judgeIssue h
  sending h := (h.only (takeForSending_only _)).only (settlePool_only _)
  cell port cell h := h.only (arriveCell_only _ port cell)
  clear n h := h.only (ps := [.slots]) (.of_eq rfl)
  configure body _ h := h.idle rfl rfl rfl id id rfl rfl
  stage e es hr _ _ h := h.atTruck hr rfl rfl id rfl
  discard hr _ h := apart_abandonCommit (h.atTruck hr rfl rfl id rfl) hr
  commit code hc h :=
    h.atTruck (role_of_commitRefusal hc) rfl rfl (fun ht => ⟨ht.heard, ht.mismatch, ht.ready⟩) rfl
  trigger code epoch h := by
    unfold triggerCommit
    split
    · next hr => exact h.atTruck hr rfl rfl (fun ht => ⟨ht.heard, ht.mismatch, ht.ready⟩) rfl
    · exact h
  linkStart _ h := (apart_moveToCalling h).only (ps := [.counting]) (.of_eq rfl)
  linkStop _ h := apart_moveToStandby h
  softReset h := ⟨fun _ => ⟨rfl, ⟨rfl, rfl, rfl⟩, rfl⟩, fun _ => ⟨rfl, ⟨rfl, rfl, rfl⟩, rfl⟩⟩

theorem apart_advance {s : State} (h : Apart s) : Apart (advance s) := h.idle rfl rfl rfl id id rfl rfl

end Sys2Proof.RolePromise
end

section
/-! What every step keeps of the circuit table, the change set and the stage area (R6, R8, R12, R16). -/

-- One declaration after another: side by side, the proofs of the text need more memory than its check allows.
set_option Elab.async false

namespace Sys2Proof.TablePromise

open Sys2Proof Sys2Proof.Machine Sys2Proof.Claims Sys2Proof.Frame Sys2Proof.Slots Sys2Proof.RolePromise

/-- The stage area holds what R16 allows. -/
structure StageFits (a : StageArea) : Prop where
  empty : a.target = none → a = StageArea.empty
  length : a.items.length ≤ a.total
  change : a.target ≠ none → a.mode = .change → 1 ≤ a.total ∧ a.total ≤ 16
  full : a.mode = .full → a.total ≤ 64 ∧ ∀ e ∈ a.items, editCode e = 1

theorem stageFits_empty : StageFits StageArea.empty := ⟨fun _ => rfl, le_rfl, by decide, by decide⟩

/-- What is promised of table, change set and stage area. -/
structure Tabled (s : State) : Prop where
  order : TableInOrder s
  changes : s.role = .truck → ChangesFit (recordsOf s.table.slots) s.changes
  stage : StageFits s.stage

/-- The promise together with the one by role, which leaves a mast end no change set. -/
theorem apart_tabled_iff (s : State) : Apart s ∧ Tabled s ↔
    RoleStateApart s ∧ TableInOrder s ∧ ChangeSetBounded s ∧ EditsFitTable s ∧ PortsApart s ∧ StageWellFormed s := by
  rw [← apart_iff]
  refine and_congr_right fun hapart => ?_
  constructor
  · rintro ⟨horder, hchanges, ⟨hempty, hlength, hchange, hfull⟩⟩
    have hbounded : ChangeSetBounded s ∧ EditsFitTable s := by
      cases hr : s.role with
      | mast =>
        obtain ⟨hnil, -, -⟩ := hapart.mast hr
        rw [ChangeSetBounded, EditsFitTable, hnil]
        simp
      | truck =>
        have hc := hchanges hr
        exact ⟨⟨hc.length, hc.nodup⟩, fun e he => (fitsIn_iff _ _).1 (hc.fits e he)⟩
    exact ⟨horder, hbounded.1, hbounded.2, fun hr => ⟨(hchanges hr).apart, (hchanges hr).projectedApart⟩,
      ⟨hempty, hlength, hchange, hfull⟩⟩
  · rintro ⟨horder, ⟨hlen, hnodup⟩, hfits, hports, ⟨hempty, hlength, hchange, hfull⟩⟩
    exact ⟨horder, fun hr => ⟨hlen, hnodup, fun e he => (fitsIn_iff _ _).2 (hfits e he), (hports hr).1, (hports hr).2⟩,
      ⟨hempty, hlength, hchange, hfull⟩⟩

/-! ### What the promise takes account of -/

section
variable {s t : State}

/-- The same records, change set and stage area. -/
theorem Tabled.same (h : Tabled s) (hrole : t.role = s.role) (hrec : recordsOf t.table.slots = recordsOf s.table.slots)
    (hchanges : t.changes = s.changes) (hstage : t.stage = s.stage) : Tabled t where
  order := ascending_of_records hrec h.order
  changes hr := by
    rw [hrec, hchanges]
    exact h.changes (hrole ▸ hr)
  stage := hstage ▸ h.stage

/-- The parts that the promise takes no account of. -/
def untabledParts : List Part :=
  .count :: .counting :: .params :: .generation :: .planner :: .chan :: .link :: .orders :: .exhausted :: .limits ::
    asideParts

/-- Slots that only gave up cells, beside the parts without account. -/
theorem Tabled.sheds (h : Tabled s) (hs : Sheds s t) {ps : List Part} (ho : Only ps s t)
    (hp : ∀ p ∈ ps, p ∈ .slots :: untabledParts := by decide) : Tabled t := by
  have out {p : Part} (hq : p ∉ .slots :: untabledParts) : p ∉ ps := fun hm => hq (hp p hm)
  exact h.same (ho.role (out (by decide))) (hs h.order).records (ho.changes (out (by decide)))
    (ho.stage (out (by decide)))

theorem Tabled.only (h : Tabled s) {ps : List Part} (ho : Only ps s t)
    (hp : ∀ p ∈ ps, p ∈ untabledParts := by decide) : Tabled t := by
  have out {p : Part} (hq : p ∉ untabledParts) : p ∉ ps := fun hm => hq (hp p hm)
  exact h.same (ho.role (out (by decide))) (congrArg recordsOf (ho.slots (out (by decide))))
    (ho.changes (out (by decide))) (ho.stage (out (by decide)))

theorem Tabled.aside (h : Tabled s) (ha : Aside s t) : Tabled t := h.only ha.parts

theorem tabled_blank (h : Blank t) : Tabled t := by
  have hslots : t.table.slots = [] := h.slots
  have hchanges : t.changes = [] := h.changes
  have hstage : t.stage = StageArea.empty := h.stage
  refine ⟨by rw [TableInOrder, hslots]; exact .nil, fun _ => ?_, hstage ▸ stageFits_empty⟩
  rw [hslots, hchanges]
  exact changesFit_nil rfl

/-- A table at the mast end, whose change set is not judged. -/
theorem tabled_atMast (hr : t.role = .mast) (ho : TableInOrder t) (hs : StageFits t.stage) : Tabled t :=
  ⟨ho, fun ht => absurd (hr.symm.trans ht) (by decide), hs⟩

/-! ### Moves of the link -/

/-- A drop leaves records and change set, and empties the stage area (R130, R131). -/
theorem tabled_dropAll (h : Tabled s) : Tabled (dropAll s) := by
  obtain ⟨-, hstage, -, -, -, -, -⟩ := dropAll_fields s
  have ho := dropAll_only s
  have hrec : recordsOf (dropAll s).table.slots = recordsOf s.table.slots := by
    rw [dropAll_slots]
    exact (thinned_map (thins_trimSlot 0) _).records
  refine ⟨ascending_of_records hrec h.order, fun hr => ?_, hstage ▸ stageFits_empty⟩
  rw [hrec, ho.changes]
  exact h.changes (ho.role ▸ hr)

theorem tabled_moveToCalling (h : Tabled s) : Tabled (moveToCalling s) :=
  ((tabled_dropAll h).only (setLink_only _ _)).only (startRound_only _)

theorem tabled_moveToStandby (h : Tabled s) : Tabled (moveToStandby s) :=
  ((tabled_dropAll h).only (setLink_only _ _)).only (stopSchedule_only _)

theorem tabled_expireWindow (h : Tabled s) : Tabled (expireWindow s) := by
  unfold expireWindow failRound
  dsimp only
  split_ifs
  · exact h.only (startPhase_only s _ _ _)
  · exact tabled_moveToStandby (h.only (raise_only s _))
  · exact (h.only (raise_only s .callFailed)).only (startPhase_only _ _ _ _)
  · exact h

theorem tabled_judgeHoldover (h : Tabled s) : Tabled (judgeHoldover s) := by
  unfold judgeHoldover
  split
  · exact (tabled_moveToCalling h).only (formMessage_only _)
  · exact h

theorem tabled_judgeRunEnd (h : Tabled s) : Tabled (judgeRunEnd s) :=
  h.sheds (sheds_judgeRunEnd s) (judgeRunEnd_only s)

/-! ### Applying a change set and a stage -/

/-- The change set applied at the truck end: the table holds the projected records, and nothing is staged (R20). -/
theorem tabled_completeCommit (h : Tabled s) (hr : s.role = .truck) (j : CommitJob) (epoch : Count) (moved : Bool) :
    Tabled (completeCommit j epoch moved s) := by
  have ho := completeCommit_only s j epoch moved
  have hslots : (completeCommit j epoch moved s).table.slots = applyEdits s.role s.table.slots s.changes := by
    unfold completeCommit applyChangeSet
    simp [putTable_table]
  have hchanges : (completeCommit j epoch moved s).changes = [] := by
    unfold completeCommit applyChangeSet
    simp
  refine ⟨?_, fun _ => ?_, by rw [ho.stage]; exact h.stage⟩
  · rw [TableInOrder, hslots]
    exact applyEdits_ascending _ _ h.order
  · rw [hslots, recordsOf_applyEdits, hchanges]
    exact changesFit_nil (h.changes hr).projectedApart

theorem tabled_completeOrdered (h : Tabled s) (hr : s.role = .truck) : Tabled (completeOrdered s) := by
  unfold completeOrdered
  split
  · split
    · exact tabled_completeCommit h hr _ _ _
    · exact h
  · exact h

theorem tabled_judgeCompletion (h : Tabled s) : Tabled (judgeCompletion s) := by
  unfold judgeCompletion
  split
  · split
    · split
      · next hd => exact tabled_completeCommit h hd.2 _ _ _
      · exact h
    · exact h
  · exact h

theorem tabled_judgeTakeTruck (h : Tabled s) : Tabled (judgeTakeTruck s) := by
  unfold judgeTakeTruck
  split
  · next o ho =>
    have done : Tabled (if o.kind = .commit then completeOrdered s else s) := by
      split
      · exact tabled_completeOrdered h (role_of_takeDueTruck ho)
      · exact h
    unfold takeAtTruck
    dsimp only
    generalize (if o.kind = .commit then completeOrdered s else s) = u at done
    have ended : Tabled { putInForce o.stamp o.view u with
        orders := endNeeds o.kind (putInForce o.stamp o.view u).orders } :=
      done.only (ps := [.orders, .planner]) (.of_eq rfl)
    exact ((ended.only (raise_only _ _)).only (raiseIf_only _ _ _)).only (linkTakes_only _)
  · exact h

/-- A table and an empty stage area put in place at the mast end. -/
theorem tabled_putTable (hr : s.role = .mast) {slots : List Slot} (hs : Ascending slots) {g : Word16} {b : Bool} :
    Tabled { putTable slots g b s with stage := StageArea.empty } := by
  refine tabled_atMast ((putTable_only s slots g b).role.trans hr) ?_ stageFits_empty
  change Ascending (putTable slots g b s).table.slots
  rw [putTable_table]
  exact hs

theorem tabled_applyStage (h : Tabled s) (hr : s.role = .mast) (source : Option Source) :
    Tabled (applyStage source s) := by
  unfold applyStage
  split
  · exact tabled_putTable hr (applyEdits_ascending _ _ h.order)
  · exact tabled_putTable hr (adoptEdits_ascending _)
  · exact h

theorem tabled_takeAtMast (h : Tabled s) (hr : s.role = .mast) (x : HeardOrder) : Tabled (takeAtMast x s) := by
  have applied := tabled_applyStage h hr x.source
  unfold takeAtMast
  dsimp only
  generalize applyStage x.source s = u at applied
  have cleared : Tabled { putInForce x.order.stamp x.order.view u with
      orders := { (putInForce x.order.stamp x.order.view u).orders with heard := none, mismatch := false } } :=
    applied.only (ps := [.orders, .planner]) (.of_eq rfl)
  exact cleared.only (linkTakes_only _)

theorem tabled_judgeTakeMast (h : Tabled s) : Tabled (judgeTakeMast s) := by
  unfold judgeTakeMast
  split
  · next x hx => exact tabled_takeAtMast h (role_of_takeDueMast hx) x
  · exact h

/-! ### Steering messages at the mast end -/

theorem tabled_hearNew (h : Tabled s) (hr : s.role = .mast) (o : OrderField) : Tabled (hearNew o s) := by
  have ho := (judgePlannable_only s o).andThen (rs := [.orders, .planner]) (abandonRunOf_only _ s.orders.heard)
  have heard := h.only ho
  unfold hearNew
  dsimp only
  split
  · split
    · exact tabled_takeAtMast heard (ho.role.trans hr) _
    · exact heard
  · exact heard

theorem tabled_hearOrders (h : Tabled s) (hr : s.role = .mast) (m : Steering) : Tabled (hearOrders m s) := by
  have again := h.only (rejudgeHeard_only s)
  unfold hearOrders
  split
  · split
    · exact again
    · split
      · exact again
      · exact tabled_hearNew h hr _
  · dsimp only
    split
    · have marked : Tabled { rejudgeHeard s with orders := { (rejudgeHeard s).orders with mismatch := true } } :=
        again.only (ps := [.orders]) (.of_eq rfl)
      exact marked.only (raise_only _ _)
    · exact again

/-- An item that joins a stage leaves one that R16 allows, where its header does (R17). -/
theorem stageFits_appendItem {i : TransferItem} {a : StageArea} (h : StageFits a) (ht : a.target ≠ none)
    (hi : i.index < a.total ∨ i.edit = none) (hadd : a.mode = .full → ∀ e, i.edit = some e → editCode e = 1) :
    StageFits (appendItem i a) := by
  unfold appendItem
  split
  · next e he =>
    split
    · next hidx =>
      refine ⟨fun hn => absurd hn ht, ?_, h.change, fun hm => ⟨(h.full hm).1, fun x hx => ?_⟩⟩
      · rcases hi with hi | hi
        · change (a.items ++ [e]).length ≤ a.total
          rw [List.length_append, List.length_singleton]
          omega
        · rw [he] at hi
          cases hi
      · rcases List.mem_append.1 hx with hx | hx
        · exact (h.full hm).2 x hx
        · exact List.mem_singleton.1 hx ▸ hadd hm e he
    · exact h
  · exact h

/-- What an item that is not malformed promises of its header (R17). -/
theorem wellFormed_item {i : TransferItem} (h : itemMalformed i = false) :
    (i.mode = .change → 1 ≤ i.total ∧ i.total ≤ 16) ∧ (i.mode = .full → i.total ≤ 64) ∧
    (i.index < i.total ∨ i.edit = none) ∧ (i.mode = .full → ∀ e, i.edit = some e → editCode e = 1) := by
  unfold itemMalformed at h
  simp only [Bool.or_eq_false_iff] at h
  obtain ⟨⟨htotal, hindex⟩, hedit⟩ := h
  refine ⟨fun hm => ?_, fun hm => ?_, ?_, fun hm e he => ?_⟩
  · simpa [hm] using htotal
  · simpa [hm] using htotal
  · split at hindex
    · exact .inr (by simpa using (Bool.or_eq_false_iff.1 hindex).2)
    · exact .inl (by simpa using (Bool.or_eq_false_iff.1 hindex).1)
  · rw [hm, he] at hedit
    cases e with
    | add r => rfl
    | modify r => cases hedit
    | retire n => cases hedit

theorem stageFits_judgeItem {deadBand : Bool} {g : Word16} {i : TransferItem} {a : StageArea} (h : StageFits a) :
    StageFits (judgeItem deadBand g i a) := by
  unfold judgeItem
  split
  · exact h
  · split
    · exact h
    · next hw =>
      obtain ⟨hchange, hfull, hindex, hadd⟩ := wellFormed_item (Bool.eq_false_iff.2 hw)
      split
      · exact h
      · split
        · next hsame =>
          obtain ⟨htarget, hmode, htotal⟩ := hsame
          exact stageFits_appendItem h (by simp [htarget]) (htotal ▸ hindex) (hmode ▸ hadd)
        · have fresh : StageFits ⟨some i.target, i.mode, i.total, []⟩ :=
            ⟨by simp, Nat.zero_le _, fun _ => hchange, fun hm => ⟨hfull hm, by simp⟩⟩
          exact stageFits_appendItem fresh (by simp) hindex hadd

theorem tabled_hearItem (h : Tabled s) (hr : s.role = .mast) (m : Steering) : Tabled (hearItem m s) := by
  unfold hearItem
  split
  · exact tabled_atMast hr h.order (stageFits_judgeItem h.stage)
  · split
    · exact tabled_atMast hr h.order stageFits_empty
    · exact h

theorem tabled_chooseSteering (h : Tabled s) (m : Steering) (n : Count) : Tabled (chooseSteering m n s) := by
  unfold chooseSteering
  split
  · next ha =>
    have hn := steeringNoted_only m s
    have hrn : (steeringNoted m s).role = .mast := hn.role.trans (role_of_steeringAcceptable ha)
    have items := tabled_hearItem (h.only hn) hrn m
    have hri := (hearItem_only (steeringNoted m s) m).role.trans hrn
    rw [hearSteering_eq]
    exact (tabled_hearOrders items hri m).only (ps := [.chan]) (.of_eq rfl)
  · exact h

/-! ### Cells, counters and requests -/

/-- A LIVE slot written with one of its own record leaves the records as they are. -/
theorem recordsOf_putSlot_same {xs : List Slot} {x y : Slot} (hs : Ascending xs) (hx : x ∈ xs)
    (h : y.record = x.record) : recordsOf (putSlot y xs) = recordsOf xs := by
  rw [recordsOf_putSlot, h, ← recordsOf_putSlot]
  exact (thinned_putSlot hs hx (.refl x)).records

theorem tabled_writeSlot (h : Tabled s) {x y : Slot} (hx : x ∈ s.table.slots) (hr : y.record = x.record) :
    Tabled (writeSlot y s) :=
  h.same rfl (recordsOf_putSlot_same h.order hx hr) rfl rfl

theorem tabled_arriveCell (h : Tabled s) (port : Fin 32) (cell : Cell) : Tabled (arriveCell port cell s) := by
  unfold arriveCell
  split
  · next x hx =>
    have hmem : x ∈ s.table.slots := List.mem_of_find?_eq_some hx
    have hrec : recordsOf (dropCell x s).table.slots = recordsOf s.table.slots := by
      unfold dropCell
      rw [writeCounted_slots]
      exact recordsOf_putSlot_same h.order hmem rfl
    have ho := dropCell_only s x
    have dropped : Tabled (dropCell x s) := h.same ho.role hrec ho.changes ho.stage
    unfold judgeCell
    split_ifs
    · exact dropped
    · exact dropped
    · exact dropped.only (exhaustPool_only _)
    · exact tabled_writeSlot h hmem rfl
  · exact h.only (strayCell_only s)

theorem tabled_softReset (h : Tabled s) : Tabled (softReset s) := by
  have hrec := (sheds_softReset s h.order).records
  refine ⟨ascending_of_records hrec h.order, fun hr => ?_, stageFits_empty⟩
  rw [hrec]
  exact changesFit_nil (h.changes hr).apart

end

/-- Every operation keeps the promise of the table. -/
theorem tabled_kept : Kept Tabled where
  aside ha h := h.aside ha
  blank h := tabled_blank h
  window h := tabled_expireWindow h
  gap h := h.only (expireGap_only _)
  recallWait h := h.only (expireRecall_only _)
  runEnd h := tabled_judgeRunEnd h
  cycleEnd h := h.only (judgeCycleEnd_only _)
  holdover h := tabled_judgeHoldover h
  takeTruck h := tabled_judgeTakeTruck h
  takeMast h := tabled_judgeTakeMast h
  completion h := tabled_judgeCompletion h
  evaluate l input h := h.only (evaluateLane_only _ l input)
  deliver h := h.sheds (counts_deliverSuperframe _).sheds (deliverSuperframe_only _)
  steering m n h := tabled_chooseSteering h m n
  reply m h := h.only (chooseReply_only _ m)
  fullSync h := h.only (judgeFullSync_only _)
  issue h := h.only (judgeIssue_only _)
  sending h := (h.sheds (sheds_takeForSending _) (takeForSending_only _)).only (settlePool_only _)
  cell port cell h := tabled_arriveCell h port cell
  clear n h := h.sheds (ps := [.slots]) (counts_clearCircuit _ n).sheds (.of_eq rfl)
  configure body _ h := h.only (ps := [.chan, .params]) (.of_eq rfl)
  stage e es hr _ he h :=
    ⟨h.order, fun _ => changesFit_of_stageEdit (sorted_recordsOf.2 h.order) (h.changes hr) he, h.stage⟩
  discard {s} hr _ h := by
    have emptied : Tabled { s with changes := [] } := ⟨h.order, fun _ => changesFit_nil (h.changes hr).apart, h.stage⟩
    exact emptied.only (abandonCommit_only _)
  commit code _ h := h.only (ps := [.orders]) (.of_eq rfl)
  trigger code epoch h := h.only (ps := [.orders]) (.ite (fun _ => .of_eq rfl) fun _ => .refl _ _)
  linkStart _ h := (tabled_moveToCalling h).only (ps := [.counting]) (.of_eq rfl)
  linkStop _ h := tabled_moveToStandby h
  softReset h := tabled_softReset h

/-- Settles O57: the promises of table and role, each kept operation by operation. -/
theorem tablePromisesKept : Obligations.TablePromisesKept := by
  rintro s t ⟨hheld, hs⟩ hstep
  obtain ⟨hrole, htable⟩ := (apart_tabled_iff s).2 hs
  obtain ⟨hheld', hrole'⟩ := apart_kept.steps (fun inputs h => apart_kept.completed apart_advance inputs h) hheld hrole hstep
  obtain ⟨-, htable'⟩ := tabled_kept.steps (fun inputs h =>
    tabled_kept.completed (fun h => h.only (advance_only _)) inputs h) hheld htable hstep
  exact ⟨hheld', (apart_tabled_iff t).1 ⟨hrole', htable'⟩⟩

end Sys2Proof.TablePromise
end

section
/-! What every step keeps of the ingress queues and the cell pool (R163, R164, R166, R172, R173). -/

-- One declaration after another: side by side, the proofs of the text need more memory than its check allows.
set_option Elab.async false

namespace Sys2Proof.QueuePromise

open Sys2Proof Sys2Proof.Machine Sys2Proof.Claims Sys2Proof.Frame Sys2Proof.Slots Sys2Proof.RolePromise

/-- The cells in all queues of a table. -/
def cells (slots : List Slot) : Nat := (slots.map fun x => x.queue.length).sum

theorem occupancy_eq (s : State) : occupancy s = cells s.table.slots := rfl

/-- A table whose queues keep their limits and stand at their sending end, within the pool (R163, R164, R166). -/
structure QueuesFit (role : Role) (limits : Option Plan) (slots : List Slot) : Prop where
  order : Ascending slots
  limit : ∀ x ∈ slots, x.queue.length ≤ queueLimit limits x.record.number
  pool : cells slots ≤ 16384
  sender : ∀ x ∈ slots, x.queue ≠ [] → senderOf x.record.direction = role

/-- The promise of the queues. -/
structure Queued (s : State) : Prop where
  fit : QueuesFit s.role s.service.limits s.table.slots
  mark : s.service.exhausted = true → 12288 < occupancy s

theorem queued_iff (s : State) : Queued s ↔ TableInOrder s ∧ QueuesBounded s ∧ QueuesAtSender s :=
  ⟨fun ⟨⟨ho, hl, hp, hs⟩, hm⟩ => ⟨ho, ⟨hl, hp, hm⟩, hs⟩, fun ⟨ho, ⟨hl, hp, hm⟩, hs⟩ => ⟨⟨ho, hl, hp, hs⟩, hm⟩⟩

section
variable {role : Role} {limits : Option Plan} {xs ys : List Slot}

theorem QueuesFit.thinned (h : QueuesFit role limits xs) (ht : Thinned xs ys) : QueuesFit role limits ys where
  order := ht.ascending h.order
  limit y hy := by
    obtain ⟨x, hx, hxy⟩ := ht.source hy
    rw [hxy.record]
    exact hxy.queue.trans (h.limit x hx)
  pool := ht.cells.trans h.pool
  sender y hy hne := by
    obtain ⟨x, hx, hxy⟩ := ht.source hy
    rw [hxy.record]
    refine h.sender x hx fun hnil => hne (List.length_eq_zero_iff.1 ?_)
    have := hxy.queue
    rw [hnil] at this
    simpa using this

/-- Empty queues fit any limits at any end. -/
theorem queuesFit_empty (ho : Ascending xs) (he : ∀ x ∈ xs, x.queue = []) : QueuesFit role limits xs where
  order := ho
  limit x hx := by rw [he x hx]; exact Nat.zero_le _
  pool := by
    have : cells xs = 0 := by
      unfold cells
      rw [List.sum_eq_zero_iff]
      intro n hn
      obtain ⟨x, hx, rfl⟩ := List.mem_map.1 hn
      rw [he x hx]
      rfl
    rw [this]
    exact Nat.zero_le _
  sender x hx hne := absurd (he x hx) hne

theorem cells_putSlot_le (x : Slot) (xs : List Slot) : cells (putSlot x xs) ≤ cells xs + x.queue.length := by
  unfold cells
  induction xs with
  | nil => simp [putSlot]
  | cons y ys ih =>
    unfold putSlot
    split_ifs
    · simp only [List.map_cons, List.sum_cons]; omega
    · simp only [List.map_cons, List.sum_cons]; omega
    · simp only [List.map_cons, List.sum_cons]; omega

/-- The cells of a table in which one slot was written in place. -/
theorem cells_putSlot_live (hs : Ascending xs) {x y : Slot} (hx : x ∈ xs) (hn : y.record.number = x.record.number) :
    cells (putSlot y xs) + x.queue.length = cells xs + y.queue.length := by
  unfold cells
  induction xs with
  | nil => cases hx
  | cons z zs ih =>
    obtain ⟨hz, hzs⟩ := ascending_cons.1 hs
    unfold putSlot
    rw [hn]
    rcases List.mem_cons.1 hx with rfl | hx
    · rw [if_neg (lt_irrefl _), if_pos rfl]
      simp only [List.map_cons, List.sum_cons]
      omega
    · have hlt := hz x hx
      rw [if_neg (lt_asymm hlt), if_neg (ne_of_gt hlt)]
      have := ih hzs hx
      simp only [List.map_cons, List.sum_cons]
      omega

theorem cells_le_of_forall₂ {R : Slot → Slot → Prop} (hR : ∀ {x y}, R x y → y.queue.length ≤ x.queue.length)
    (h : List.Forall₂ R xs ys) : cells ys ≤ cells xs := by
  unfold cells
  induction h with
  | nil => exact le_rfl
  | cons hxy _ ih =>
    simp only [List.map_cons, List.sum_cons]
    exact Nat.add_le_add (hR hxy) ih

/-- A slot without cells written to a table. -/
theorem QueuesFit.putNew (h : QueuesFit role limits xs) (r : Record) : QueuesFit role limits (putSlot (newSlot r) xs) where
  order := putSlot_ascending _ h.order
  limit x hx := by
    rcases mem_putSlot hx with rfl | hx
    · exact Nat.zero_le _
    · exact h.limit x hx
  pool := (cells_putSlot_le _ _).trans h.pool
  sender x hx hne := by
    rcases mem_putSlot hx with rfl | hx
    · exact absurd rfl hne
    · exact h.sender x hx hne

/-- A LIVE slot written with one of its number that holds no more cells, and none where this end does not send it. -/
theorem QueuesFit.putLive (h : QueuesFit role limits xs) {x y : Slot} (hx : x ∈ xs)
    (hn : y.record.number = x.record.number) (hq : y.queue.length ≤ x.queue.length)
    (hy : y.queue ≠ [] → senderOf y.record.direction = role) : QueuesFit role limits (putSlot y xs) where
  order := putSlot_ascending _ h.order
  limit z hz := by
    rcases mem_putSlot hz with rfl | hz
    · rw [hn]
      exact hq.trans (h.limit x hx)
    · exact h.limit z hz
  pool := (cells_le_of_forall₂ (R := fun x y => y.queue.length ≤ x.queue.length) (fun h => h)
    (forall₂_putSlot (fun _ => le_rfl) h.order hx hn hq)).trans h.pool
  sender z hz hne := by
    rcases mem_putSlot hz with rfl | hz
    · exact hy hne
    · exact h.sender z hz hne

/-- An edit empties or keeps the queue of its number, and keeps every other (R20, R173). -/
theorem QueuesFit.applyEdit (h : QueuesFit role limits xs) (e : Edit) : QueuesFit role limits (applyEdit role xs e) := by
  cases e with
  | add r => exact h.putNew r
  | modify r =>
    unfold Machine.applyEdit
    dsimp only
    split
    · next x hx =>
      obtain ⟨hmem, hnum⟩ := mem_of_slotAt hx
      refine h.putLive hmem (by rw [modifySlot_record, hnum]) ?_ fun hne => ?_
      · unfold modifySlot
        split
        · exact le_rfl
        · exact Nat.zero_le _
      · unfold modifySlot at *
        split
        · assumption
        · next hs => simp [hs] at hne
    · exact h.putNew r
  | retire n =>
    have hmem {x : Slot} (hx : x ∈ eraseSlot n xs) : x ∈ xs := (List.mem_filter.1 hx).1
    refine ⟨eraseSlot_ascending n h.order, fun x hx => h.limit x (hmem hx), ?_, fun x hx => h.sender x (hmem hx)⟩
    exact (List.Sublist.sum_le_sum (List.filter_sublist.map _) (fun _ _ => Nat.zero_le _)).trans h.pool

theorem QueuesFit.applyEdits (h : QueuesFit role limits xs) (es : List Edit) :
    QueuesFit role limits (applyEdits role xs es) := by
  induction es generalizing xs with
  | nil => exact h
  | cons e es ih => exact ih (h.applyEdit e)

end

/-! ### Operation by operation -/

section
variable {s t : State}

/-- The parts that the promise takes no account of. -/
def unqueuedParts : List Part :=
  .count :: .counting :: .params :: .generation :: .changes :: .stage :: .planner :: .chan :: .link :: .orders ::
    asideParts

theorem Queued.same (h : Queued s) (hrole : t.role = s.role) (hslots : t.table.slots = s.table.slots)
    (hlimits : t.service.limits = s.service.limits) (hmark : t.service.exhausted = s.service.exhausted) : Queued t where
  fit := by rw [hrole, hslots, hlimits]; exact h.fit
  mark := by rw [hmark, occupancy_eq, hslots]; exact h.mark

theorem Queued.only (h : Queued s) {ps : List Part} (ho : Only ps s t)
    (hp : ∀ p ∈ ps, p ∈ unqueuedParts := by decide) : Queued t := by
  have out {p : Part} (hq : p ∉ unqueuedParts) : p ∉ ps := fun hm => hq (hp p hm)
  exact h.same (ho.role (out (by decide))) (ho.slots (out (by decide))) (ho.limits (out (by decide)))
    (ho.exhausted (out (by decide)))

theorem Queued.aside (h : Queued s) (ha : Aside s t) : Queued t := h.only ha.parts

/-- A pool that has been settled bears its mark by its occupancy (R166). -/
theorem queued_settlePool (h : QueuesFit s.role s.service.limits s.table.slots) : Queued (settlePool s) :=
  ⟨h, settlePool_exhausted s⟩

/-- Counters written beside the queues. -/
theorem Queued.counts (h : Queued s) (hc : Counts s t) (hrole : t.role = s.role)
    (hlimits : t.service.limits = s.service.limits) (hmark : t.service.exhausted = s.service.exhausted) : Queued t where
  fit := by rw [hrole, hlimits]; exact h.fit.thinned (hc h.fit.order).thinned
  mark := by rw [hmark, occupancy_eq, cells, (hc h.fit.order).cells]; exact h.mark

/-- Empty queues and no mark. -/
theorem queued_empty (ho : Ascending t.table.slots) (he : ∀ x ∈ t.table.slots, x.queue = [])
    (hm : t.service.exhausted = false) : Queued t :=
  ⟨queuesFit_empty ho he, fun h => absurd (hm.symm.trans h) (by decide)⟩

theorem queued_putTable {slots : List Slot} (h : QueuesFit s.role s.service.limits slots) (g : Word16) (b : Bool) :
    Queued (putTable slots g b s) := by
  unfold putTable
  refine queued_settlePool ?_
  rw [raiseIf_role, raiseIf_service, raiseIf_table]
  exact h

/-- Queues cut to new limits keep them (R172). -/
theorem QueuesFit.trimmed {role : Role} {limits new : Option Plan} {xs : List Slot} (h : QueuesFit role limits xs) :
    QueuesFit role new (xs.map fun x => trimSlot (queueLimit new x.record.number) x) := by
  have ht := thinned_map (fun x => thins_trimSlot (queueLimit new x.record.number) x) xs
  refine ⟨ht.ascending h.order, fun y hy => ?_, (h.thinned ht).pool, (h.thinned ht).sender⟩
  obtain ⟨x, -, rfl⟩ := List.mem_map.1 hy
  rw [(thins_trimSlot _ x).record]
  exact trimSlot_length_le _ x

theorem queued_trimQueues {limits : Option Plan} (h : QueuesFit s.role limits s.table.slots) :
    Queued (trimQueues (queueLimit s.service.limits) s) := by
  unfold trimQueues
  dsimp only
  refine queued_settlePool ?_
  rw [raiseIf_role, raiseIf_service, raiseIf_table]
  exact h.trimmed

theorem emptied_of_trim (x : Slot) : (trimSlot 0 x).queue = [] :=
  List.length_eq_zero_iff.1 (Nat.le_zero.1 (trimSlot_length_le 0 x))

theorem queued_dropAll (ho : Ascending s.table.slots) : Queued (dropAll s) := by
  obtain ⟨-, -, -, -, -, -, hservice⟩ := dropAll_fields s
  refine queued_empty ?_ ?_ (by rw [hservice])
  · rw [dropAll_slots]
    exact (thinned_map (thins_trimSlot 0) _).ascending ho
  · rw [dropAll_slots]
    intro y hy
    obtain ⟨x, -, rfl⟩ := List.mem_map.1 hy
    exact emptied_of_trim x

theorem queued_moveToCalling (h : Queued s) : Queued (moveToCalling s) :=
  ((queued_dropAll h.fit.order).only (setLink_only _ _)).only (startRound_only _)

theorem queued_moveToStandby (h : Queued s) : Queued (moveToStandby s) :=
  ((queued_dropAll h.fit.order).only (setLink_only _ _)).only (stopSchedule_only _)

theorem queued_expireWindow (h : Queued s) : Queued (expireWindow s) := by
  unfold expireWindow failRound
  dsimp only
  split_ifs
  · exact h.only (startPhase_only s _ _ _)
  · exact queued_moveToStandby (h.only (raise_only s _))
  · exact (h.only (raise_only s .callFailed)).only (startPhase_only _ _ _ _)
  · exact h

theorem queued_judgeHoldover (h : Queued s) : Queued (judgeHoldover s) := by
  unfold judgeHoldover
  split
  · exact (queued_moveToCalling h).only (formMessage_only _)
  · exact h

theorem queued_judgeRunEnd (h : Queued s) : Queued (judgeRunEnd s) := by
  unfold judgeRunEnd
  split
  · next r _ =>
    exact queued_trimQueues (s := { s with
      planner := placePlan s.orders.stamp (computePlan r.stamp r.view r.table) s.planner
      service := { s.service with limits := some (computePlan r.stamp r.view r.table) }
      orders := if s.role = .mast then { s.orders with ready := some r.stamp } else s.orders }) h.fit
  · exact h

theorem queued_completeCommit (h : Queued s) (j : CommitJob) (epoch : Count) (moved : Bool) :
    Queued (completeCommit j epoch moved s) := by
  have applied : Queued (applyChangeSet s) :=
    (queued_putTable (h.fit.applyEdits s.changes) _ _).only (ps := [.changes]) (.of_eq rfl)
  exact (applied.only (raise_only _ .commitDone)).only (ps := [.orders]) (.of_eq rfl)

theorem queued_takeAtTruck (h : Queued s) (o : Order) : Queued (takeAtTruck o s) := by
  have done : Queued (if o.kind = .commit then completeOrdered s else s) := by
    split
    · unfold completeOrdered
      split
      · split
        · exact queued_completeCommit h _ _ _
        · exact h
      · exact h
    · exact h
  unfold takeAtTruck
  dsimp only
  generalize (if o.kind = .commit then completeOrdered s else s) = u at done
  have forced : Queued { putInForce o.stamp o.view u with
      orders := endNeeds o.kind (putInForce o.stamp o.view u).orders } :=
    done.only (ps := [.orders, .planner]) (.of_eq rfl)
  exact ((forced.only (raise_only _ _)).only (raiseIf_only _ _ _)).only (linkTakes_only _)

theorem queued_judgeTakeTruck (h : Queued s) : Queued (judgeTakeTruck s) := by
  unfold judgeTakeTruck
  split
  · exact queued_takeAtTruck h _
  · exact h

theorem queued_judgeCompletion (h : Queued s) : Queued (judgeCompletion s) := by
  unfold judgeCompletion
  split
  · split
    · split
      · exact queued_completeCommit h _ _ _
      · exact h
    · exact h
  · exact h

theorem queued_applyStage (h : Queued s) (hr : s.role = .mast) (source : Option Source) : Queued (applyStage source s) := by
  have fit : QueuesFit .mast s.service.limits s.table.slots := hr ▸ h.fit
  have put {slots : List Slot} (hs : QueuesFit .mast s.service.limits slots) (g : Word16) (b : Bool) :
      Queued (putTable slots g b s) := queued_putTable (hr.symm ▸ hs) g b
  unfold applyStage
  split
  · exact (put (fit.applyEdits _) _ _).only (ps := [.stage]) (.of_eq rfl)
  · have none : QueuesFit .mast s.service.limits [] := queuesFit_empty .nil (by simp)
    exact (put (none.applyEdits _) _ _).only (ps := [.stage]) (.of_eq rfl)
  · exact h

theorem queued_takeAtMast (h : Queued s) (hr : s.role = .mast) (x : HeardOrder) : Queued (takeAtMast x s) := by
  have applied := queued_applyStage h hr x.source
  unfold takeAtMast
  dsimp only
  generalize applyStage x.source s = u at applied
  have forced : Queued { putInForce x.order.stamp x.order.view u with
      orders := { (putInForce x.order.stamp x.order.view u).orders with heard := none, mismatch := false } } :=
    applied.only (ps := [.orders, .planner]) (.of_eq rfl)
  exact forced.only (linkTakes_only _)

theorem queued_judgeTakeMast (h : Queued s) : Queued (judgeTakeMast s) := by
  unfold judgeTakeMast
  split
  · next x hx => exact queued_takeAtMast h (role_of_takeDueMast hx) x
  · exact h

theorem queued_hearNew (h : Queued s) (hr : s.role = .mast) (o : OrderField) : Queued (hearNew o s) := by
  have ho := (judgePlannable_only s o).andThen (rs := [.orders, .planner]) (abandonRunOf_only _ s.orders.heard)
  have heard := h.only ho
  unfold hearNew
  dsimp only
  split
  · split
    · exact queued_takeAtMast heard (ho.role.trans hr) _
    · exact heard
  · exact heard

theorem queued_hearOrders (h : Queued s) (hr : s.role = .mast) (m : Steering) : Queued (hearOrders m s) := by
  have again := h.only (rejudgeHeard_only s)
  unfold hearOrders
  split
  · split
    · exact again
    · split
      · exact again
      · exact queued_hearNew h hr _
  · dsimp only
    split
    · have marked : Queued { rejudgeHeard s with orders := { (rejudgeHeard s).orders with mismatch := true } } :=
        again.only (ps := [.orders]) (.of_eq rfl)
      exact marked.only (raise_only _ _)
    · exact again

theorem queued_chooseSteering (h : Queued s) (m : Steering) (n : Count) : Queued (chooseSteering m n s) := by
  unfold chooseSteering
  split
  · next ha =>
    have hn := (steeringNoted_only m s).andThen (rs := [.params, .chan, .link, .flags, .stage]) (hearItem_only _ m)
    have items := h.only hn
    rw [hearSteering_eq]
    exact (queued_hearOrders items (hn.role.trans (role_of_steeringAcceptable ha)) m).only (ps := [.chan]) (.of_eq rfl)
  · exact h

/-! ### Cells -/

theorem queued_sending (h : Queued s) : Queued (settlePool (takeForSending s).2) := by
  have ho := takeForSending_only s
  refine queued_settlePool ?_
  rw [ho.role, ho.limits]
  exact h.fit.thinned (sheds_takeForSending s h.fit.order)

theorem queued_deliver (h : Queued s) : Queued (deliverSuperframe s) := by
  have ho := deliverSuperframe_only s
  exact h.counts (counts_deliverSuperframe s) ho.role ho.limits ho.exhausted

theorem counts_dropCell {x : Slot} (hx : x ∈ s.table.slots) : Counts s (dropCell x s) :=
  counts_writeCounted s (y := { x with counters := { x.counters with
    dropped := satAdd Config.counterMax x.counters.dropped 1 } }) hx ⟨rfl, rfl⟩ _

/-- A cell that is queued (R165, R166). -/
theorem queued_push (h : Queued s) {x : Slot} (hx : x ∈ s.table.slots) (cell : Cell)
    (hlimit : x.queue.length < queueLimit s.service.limits x.record.number) (hpool : occupancy s < 16384)
    (hsender : senderOf x.record.direction = s.role) : Queued (writeSlot { x with queue := x.queue ++ [cell] } s) := by
  have hcells : cells (putSlot { x with queue := x.queue ++ [cell] } s.table.slots) = cells s.table.slots + 1 := by
    have hput := cells_putSlot_live h.fit.order hx (y := { x with queue := x.queue ++ [cell] }) rfl
    simp only [List.length_append, List.length_singleton] at hput
    omega
  refine ⟨⟨putSlot_ascending _ h.fit.order, fun y hy => ?_, ?_, fun y hy hne => ?_⟩, fun hm => ?_⟩
  · rcases mem_putSlot hy with rfl | hy
    · change (x.queue ++ [cell]).length ≤ _
      rw [List.length_append, List.length_singleton]
      exact hlimit
    · exact h.fit.limit y hy
  · change cells (putSlot _ _) ≤ _
    rw [hcells]
    exact hpool
  · rcases mem_putSlot hy with rfl | hy
    · exact hsender
    · exact h.fit.sender y hy hne
  · have := h.mark hm
    rw [occupancy_eq] at this ⊢
    change _ < cells (putSlot _ _)
    rw [hcells]
    omega

theorem queued_arriveCell (h : Queued s) (port : Fin 32) (cell : Cell) : Queued (arriveCell port cell s) := by
  unfold arriveCell
  split
  · next x hx =>
    have hmem : x ∈ s.table.slots := List.mem_of_find?_eq_some hx
    have hsender : senderOf x.record.direction = s.role := by
      have := List.find?_some hx
      simp only [Bool.and_eq_true, decide_eq_true_eq] at this
      rw [this.1]
      cases s.role <;> rfl
    have ho := dropCell_only s x
    have dropped : Queued (dropCell x s) := h.counts (counts_dropCell hmem) ho.role ho.limits ho.exhausted
    have hcells : cells (dropCell x s).table.slots = cells s.table.slots := (counts_dropCell hmem h.fit.order).cells
    unfold judgeCell
    split_ifs with hplan hlimit hpool
    · exact dropped
    · exact dropped
    · refine ⟨?_, fun _ => ?_⟩
      · have he := exhaustPool_only (dropCell x s)
        rw [he.role, he.limits, he.slots]
        exact dropped.fit
      · rw [occupancy_eq, (exhaustPool_only _).slots, hcells, ← occupancy_eq]
        exact lt_of_lt_of_le (by decide) hpool
    · exact queued_push h hmem cell (not_le.1 hlimit) (not_le.1 hpool) hsender
  · have ho := strayCell_only s
    exact h.same ho.role ho.slots ho.limits ho.exhausted

theorem queued_softReset (h : Queued s) : Queued (softReset s) := by
  refine queued_empty ((sheds_softReset s h.fit.order).ascending h.fit.order) (fun y hy => ?_) rfl
  obtain ⟨x, -, rfl⟩ := List.mem_map.1 hy
  rfl

theorem queued_blank (h : Blank t) : Queued t := by
  have hslots : t.table.slots = [] := h.slots
  exact queued_empty (hslots ▸ .nil) (by simp [hslots]) h.exhausted

end

/-- Every operation keeps the promise of the queues. -/
theorem queued_kept : Kept Queued where
  aside ha h := h.aside ha
  blank h := queued_blank h
  window h := queued_expireWindow h
  gap h := h.only (expireGap_only _)
  recallWait h := h.only (expireRecall_only _)
  runEnd h := queued_judgeRunEnd h
  cycleEnd h := h.only (judgeCycleEnd_only _)
  holdover h := queued_judgeHoldover h
  takeTruck h := queued_judgeTakeTruck h
  takeMast h := queued_judgeTakeMast h
  completion h := queued_judgeCompletion h
  evaluate l input h := h.only (evaluateLane_only _ l input)
  deliver h := queued_deliver h
  steering m n h := queued_chooseSteering h m n
  reply m h := h.only (chooseReply_only _ m)
  fullSync h := h.only (judgeFullSync_only _)
  issue h := h.only (judgeIssue_only _)
  sending h := queued_sending h
  cell port cell h := queued_arriveCell h port cell
  clear n h := h.counts (counts_clearCircuit _ n) rfl rfl rfl
  configure body _ h := h.only (ps := [.chan, .params]) (.of_eq rfl)
  stage e es _ _ _ h := h.only (ps := [.changes]) (.of_eq rfl)
  discard _ _ h := (h.only (ps := [.changes]) (.of_eq rfl)).only (abandonCommit_only _)
  commit code _ h := h.only (ps := [.orders]) (.of_eq rfl)
  trigger code epoch h := h.only (ps := [.orders]) (.ite (fun _ => .of_eq rfl) fun _ => .refl _ _)
  linkStart _ h := (queued_moveToCalling h).only (ps := [.counting]) (.of_eq rfl)
  linkStop _ h := queued_moveToStandby h
  softReset h := queued_softReset h

/-- Settles O58: the promise of the queues, kept operation by operation. -/
theorem queuePromisesKept : Obligations.QueuePromisesKept := by
  rintro s t ⟨hheld, hs⟩ hstep
  obtain ⟨hheld', ht⟩ := queued_kept.steps (fun inputs h =>
    queued_kept.completed (fun h => h.only (advance_only _)) inputs h) hheld ((queued_iff s).2 hs) hstep
  exact ⟨hheld', (queued_iff t).1 ht⟩

end Sys2Proof.QueuePromise
end

section
/-! What every step keeps of the parameters, the call schedule and the miss count (R112, R121, R187). -/

-- One declaration after another: side by side, the proofs of the text need more memory than its check allows.
set_option Elab.async false

namespace Sys2Proof.LinkPromise

open Sys2Proof Sys2Proof.Machine Sys2Proof.Claims Sys2Proof.Frame Sys2Proof.RolePromise Sys2Proof.LanePromise

/-! ### The call schedule and the link state -/

/-- The call schedule runs exactly in CALLING (R121). -/
structure OnSchedule (k : Link) : Prop where
  runs : k.state = .calling → k.phase ≠ none ∧ k.timer ≠ none ∧ 1 ≤ k.attempt ∧ k.attempt ≤ 3
  rests : k.state ≠ .calling → k.phase = none ∧ k.timer = none ∧ k.attempt = 0
  gap : k.phase = some .gap → k.attempt ≤ 2

theorem onSchedule_stopped {k : Link} (hs : k.state ≠ .calling) (hp : k.phase = none) (ht : k.timer = none)
    (ha : k.attempt = 0) : OnSchedule k :=
  ⟨fun h => absurd h hs, fun _ => ⟨hp, ht, ha⟩, fun h => by rw [hp] at h; cases h⟩

theorem onSchedule_phase {k : Link} {phase : CallPhase} {n : Nat} (hs : k.state = .calling) (hp : k.phase = some phase)
    (ht : k.timer = some n) (ha : 1 ≤ k.attempt ∧ k.attempt ≤ 3) (hg : phase = .gap → k.attempt ≤ 2) : OnSchedule k :=
  ⟨fun _ => ⟨by simp [hp], by simp [ht], ha.1, ha.2⟩, fun h => absurd hs h, fun h => hg (by
    rw [hp] at h
    exact Option.some.inj h)⟩

/-- A change of the link that leaves the schedule alone, where it neither enters nor leaves CALLING. -/
theorem OnSchedule.moved {k m : Link} (h : OnSchedule k) (hs : m.state = .calling ↔ k.state = .calling)
    (hp : m.phase = k.phase) (ha : m.attempt = k.attempt) (ht : m.timer.isSome = k.timer.isSome) : OnSchedule m := by
  obtain ⟨hruns, hrests, hgap⟩ := h
  refine ⟨fun hm => ?_, fun hm => ?_, fun hm => ?_⟩
  · obtain ⟨h1, h2, h3, h4⟩ := hruns (hs.1 hm)
    refine ⟨hp ▸ h1, ?_, ha ▸ h3, ha ▸ h4⟩
    rw [← Option.isSome_iff_ne_none] at h2 ⊢
    exact ht.trans h2
  · obtain ⟨h1, h2, h3⟩ := hrests fun hk => hm (hs.2 hk)
    refine ⟨hp.trans h1, ?_, ha.trans h3⟩
    rw [h2] at ht
    simpa using ht
  · rw [ha]
    exact hgap (hp ▸ hm)

/-- What is promised of parameters, call schedule and miss count. -/
structure Scheduled (s : State) : Prop where
  params : ParamsInRange s
  schedule : OnSchedule s.link
  misses : s.chan.missCount ≤ 15

theorem scheduled_iff (s : State) : Scheduled s ↔ ParamsInRange s ∧ ScheduleFollowsLink s ∧ MissesBounded s :=
  ⟨fun ⟨hp, ⟨h1, h2, h3⟩, hm⟩ => ⟨hp, ⟨h1, h2, h3⟩, hm⟩, fun ⟨hp, ⟨h1, h2, h3⟩, hm⟩ => ⟨hp, ⟨h1, h2, h3⟩, hm⟩⟩

section
variable {s t : State}

/-- The parts that the promise takes no account of. -/
def unscheduledParts : List Part :=
  .count :: .counting :: .slots :: .generation :: .changes :: .stage :: .planner :: .orders :: .exhausted :: .limits ::
    asideParts

theorem Scheduled.only (h : Scheduled s) {ps : List Part} (ho : Only ps s t)
    (hp : ∀ p ∈ ps, p ∈ unscheduledParts := by decide) : Scheduled t := by
  have out {p : Part} (hq : p ∉ unscheduledParts) : p ∉ ps := fun hm => hq (hp p hm)
  have hparams := ho.params (out (by decide))
  exact ⟨by rw [ParamsInRange, hparams]; exact h.params, by rw [ho.link (out (by decide))]; exact h.schedule,
    by rw [ho.chan (out (by decide))]; exact h.misses⟩

/-- The link changes, on schedule. -/
theorem Scheduled.linked (h : Scheduled s) {ps : List Part} (ho : Only ps s t) (hl : OnSchedule t.link)
    (hp : ∀ p ∈ ps, p ∈ .link :: unscheduledParts := by decide) : Scheduled t := by
  have out {p : Part} (hq : p ∉ .link :: unscheduledParts) : p ∉ ps := fun hm => hq (hp p hm)
  have hparams := ho.params (out (by decide))
  exact ⟨by rw [ParamsInRange, hparams]; exact h.params, hl, by rw [ho.chan (out (by decide))]; exact h.misses⟩

/-- The channel changes, with a miss count in its range. -/
theorem Scheduled.channel (h : Scheduled s) {ps : List Part} (ho : Only ps s t) (hm : t.chan.missCount ≤ 15)
    (hp : ∀ p ∈ ps, p ∈ .chan :: unscheduledParts := by decide) : Scheduled t := by
  have out {p : Part} (hq : p ∉ .chan :: unscheduledParts) : p ∉ ps := fun hm => hq (hp p hm)
  have hparams := ho.params (out (by decide))
  exact ⟨by rw [ParamsInRange, hparams]; exact h.params, by rw [ho.link (out (by decide))]; exact h.schedule, hm⟩

theorem Scheduled.aside (h : Scheduled s) (ha : Aside s t) : Scheduled t :=
  h.channel ha.parts (by rw [ha.chan]; exact h.misses)

theorem scheduled_blank (h : Blank t) : Scheduled t := by
  have hparams : t.params = State.reset.params := h.params
  have hlink : t.link = Link.cleared := h.link
  have hchan : t.chan = Channel.cleared := h.chan
  refine ⟨by rw [ParamsInRange, hparams]; decide, ?_, by rw [hchan]; decide⟩
  rw [hlink]
  exact onSchedule_stopped (by decide) rfl rfl rfl

/-! ### Moves of the link -/

/-- The drop of a move to CALLING or STANDBY ends with a miss count of 0 (R131). -/
theorem dropAll_missCount (s : State) : (dropAll s).chan.missCount = 0 := by
  obtain ⟨-, -, hchan, -⟩ := dropAll_fields s
  rw [hchan]
  rfl

/-- A part moved to CALLING is in the first window of a round (R121). -/
theorem moveToCalling_link (s : State) : (moveToCalling s).link = { (dropAll s).link with
    state := .calling, phase := some .window, attempt := 1, timer := some (Config.perMs * s.params.callWindow) } := by
  unfold moveToCalling startRound startPhase
  dsimp only
  rw [setLink_link, (setLink_only _ _).params, (dropAll_only s).params]

theorem moveToStandby_link (s : State) : (moveToStandby s).link = { (dropAll s).link with
    state := .standby, phase := none, attempt := 0, timer := none } := by
  unfold moveToStandby stopSchedule
  dsimp only
  rw [setLink_link]

theorem moveToCalling_chan (s : State) : (moveToCalling s).chan = (dropAll s).chan := by
  unfold moveToCalling
  rw [(startRound_only _).chan, (setLink_only _ _).chan]

theorem moveToStandby_chan (s : State) : (moveToStandby s).chan = (dropAll s).chan := by
  unfold moveToStandby
  rw [(stopSchedule_only _).chan, (setLink_only _ _).chan]

theorem scheduled_moveToCalling (h : Scheduled s) : Scheduled (moveToCalling s) := by
  refine ⟨by rw [ParamsInRange, (moveToCalling_only s).params]; exact h.params, ?_, ?_⟩
  · rw [moveToCalling_link]
    exact onSchedule_phase rfl rfl rfl ⟨le_rfl, by simp⟩ (by simp)
  · rw [moveToCalling_chan, dropAll_missCount]
    decide

theorem scheduled_moveToStandby (h : Scheduled s) : Scheduled (moveToStandby s) := by
  refine ⟨by rw [ParamsInRange, (moveToStandby_only s).params]; exact h.params, ?_, ?_⟩
  · rw [moveToStandby_link]
    exact onSchedule_stopped (by simp) rfl rfl rfl
  · rw [moveToStandby_chan, dropAll_missCount]
    decide

/-- A phase whose timer has expired is one of a link in CALLING (R121). -/
theorem scheduleDue_iff (phase : CallPhase) (s : State) : scheduleDue phase s = true ↔
    s.link.state = .calling ∧ s.link.phase = some phase ∧ timerDue s.link.timer = true := by
  unfold scheduleDue
  simp [and_assoc]

theorem scheduled_startPhase (h : Scheduled s) (hs : s.link.state = .calling) {phase : CallPhase} {a n : Nat}
    (ha : 1 ≤ a ∧ a ≤ 3) (hg : phase = .gap → a ≤ 2) : Scheduled (startPhase phase a n s) :=
  h.linked (startPhase_only s _ _ _) (onSchedule_phase hs rfl rfl ha hg)

theorem scheduled_expireWindow (h : Scheduled s) : Scheduled (expireWindow s) := by
  unfold expireWindow failRound
  split
  · next hd =>
    obtain ⟨hs, hp, -⟩ := (scheduleDue_iff _ _).1 hd
    obtain ⟨-, -, hone, hthree⟩ := h.schedule.runs hs
    split
    · next ha => exact scheduled_startPhase h hs ⟨hone, hthree⟩ fun _ => by omega
    · have raised : Scheduled (raise .callFailed s) := h.only (raise_only s _)
      dsimp only
      split
      · exact scheduled_moveToStandby raised
      · exact scheduled_startPhase raised hs ⟨hone, hthree⟩ (by simp)
  · exact h

theorem scheduled_expireGap (h : Scheduled s) : Scheduled (expireGap s) := by
  unfold expireGap
  split
  · next hd =>
    obtain ⟨hs, hp, -⟩ := (scheduleDue_iff _ _).1 hd
    have := h.schedule.gap hp
    exact scheduled_startPhase h hs ⟨by omega, by omega⟩ (by simp)
  · exact h

theorem scheduled_expireRecall (h : Scheduled s) : Scheduled (expireRecall s) := by
  unfold expireRecall
  split
  · next hd =>
    obtain ⟨hs, -, -⟩ := (scheduleDue_iff _ _).1 hd
    exact scheduled_startPhase h hs (by decide) (by decide)
  · exact h

/-- The link changes between states other than CALLING, with the schedule at rest. -/
theorem scheduled_setLink (h : Scheduled s) {k : LinkState} (hs : s.link.state ≠ .calling) (hk : k ≠ .calling) :
    Scheduled (setLink k s) := by
  refine h.linked (setLink_only s k) ?_
  rw [setLink_link]
  exact h.schedule.moved ⟨fun h => absurd h hk, fun h => absurd h hs⟩ rfl rfl rfl

theorem scheduled_linkTakes (h : Scheduled s) : Scheduled (linkTakes s) := by
  unfold linkTakes
  split
  · next hs => exact scheduled_setLink h (by simp [hs]) (by decide)
  · exact h.linked (ps := [.link]) (.of_eq rfl) (h.schedule.moved Iff.rfl rfl rfl rfl)
  · exact h

theorem originState_ne_calling (o : Option Origin) : originState o ≠ .calling := by
  unfold originState
  split <;> decide

theorem scheduled_linkHears (h : Scheduled s) : Scheduled (linkHears s) := by
  unfold linkHears
  split
  · refine h.linked (moveToSyncing_only s) ?_
    unfold moveToSyncing stopSchedule
    refine onSchedule_stopped ?_ rfl rfl rfl
    dsimp only
    rw [setLink_link]
    simp
  · next hs =>
    have moved := scheduled_setLink h (k := originState s.link.origin) (by simp [hs]) (originState_ne_calling _)
    exact moved.linked (ps := [.link]) (.of_eq rfl) (moved.schedule.moved Iff.rfl rfl rfl rfl)
  · exact h

/-! ### Control cycles -/

theorem formMessage_missCount (s : State) : (formMessage s).chan.missCount = s.chan.missCount := by
  unfold formMessage
  split
  · rfl
  · split
    · split <;> rfl
    · split
      · split <;> rfl
      · rfl

theorem scheduled_formMessage (h : Scheduled s) : Scheduled (formMessage s) :=
  h.channel (formMessage_only s) (by rw [formMessage_missCount]; exact h.misses)

theorem judgeMiss_missCount_le {limit : Nat} {c : Channel} (h : c.missCount ≤ 15) :
    (judgeMiss limit c).missCount ≤ 15 := by
  unfold judgeMiss
  split
  · exact h
  · exact Nat.min_le_left _ _

theorem scheduled_enterHoldover (h : Scheduled s) (hs : s.link.state ≠ .calling) (o : Origin) :
    Scheduled (enterHoldover o s) := by
  have moved := scheduled_setLink h hs (k := .holdover) (by decide)
  exact moved.linked (ps := [.link]) (.of_eq rfl) (moved.schedule.moved Iff.rfl rfl rfl rfl)

theorem scheduled_judgeCycle (h : Scheduled s) : Scheduled (judgeCycle s) := by
  have judged : Scheduled { s with chan := judgeMiss s.params.missLimit s.chan } :=
    h.channel (ps := [.chan]) (.of_eq rfl) (judgeMiss_missCount_le h.misses)
  unfold judgeCycle
  dsimp only
  split
  · next hs =>
    split
    · exact scheduled_enterHoldover judged (by simp [hs]) _
    · exact judged
  · next hs =>
    split
    · exact scheduled_enterHoldover judged (by simp [hs]) _
    · exact judged
  · exact judged.linked (countHoldover_only _) (judged.schedule.moved Iff.rfl rfl rfl rfl)
  · exact h

theorem scheduled_judgeCycleEnd (h : Scheduled s) : Scheduled (judgeCycleEnd s) := by
  have limit : Scheduled (formLimit s) :=
    h.linked (ps := [.link]) (.of_eq rfl) (h.schedule.moved Iff.rfl rfl rfl rfl)
  have judged : Scheduled (if endsVoid (formLimit s).params.c (formLimit s).count then formLimit s
      else judgeCycle (formLimit s)) := by
    split
    · exact limit
    · exact scheduled_judgeCycle limit
  unfold judgeCycleEnd endCycle
  dsimp only
  generalize (if endsVoid (formLimit s).params.c (formLimit s).count = true then formLimit s
      else judgeCycle (formLimit s)) = u at judged
  have ended : Scheduled { u with chan := { u.chan with accepted := false, cycleDue := false } } :=
    judged.channel (ps := [.chan]) (.of_eq rfl) judged.misses
  split
  · split
    · exact ended
    · exact scheduled_formMessage ended
  · exact h

theorem scheduled_judgeHoldover (h : Scheduled s) : Scheduled (judgeHoldover s) := by
  unfold judgeHoldover
  split
  · exact scheduled_formMessage (scheduled_moveToCalling h)
  · exact h

/-! ### Orders and messages -/

theorem scheduled_judgeTakeTruck (h : Scheduled s) : Scheduled (judgeTakeTruck s) := by
  unfold judgeTakeTruck
  split
  · next o _ =>
    have done : Scheduled (if o.kind = .commit then completeOrdered s else s) :=
      h.only (.ite (fun _ => completeOrdered_only s) fun _ => .refl _ _)
    unfold takeAtTruck
    dsimp only
    generalize (if o.kind = .commit then completeOrdered s else s) = u at done
    have ended : Scheduled { putInForce o.stamp o.view u with
        orders := endNeeds o.kind (putInForce o.stamp o.view u).orders } :=
      done.only (ps := [.orders, .planner]) (.of_eq rfl)
    exact scheduled_linkTakes ((ended.only (raise_only _ _)).only (raiseIf_only _ _ _))
  · exact h

theorem scheduled_takeAtMast (h : Scheduled s) (x : HeardOrder) : Scheduled (takeAtMast x s) := by
  have applied : Scheduled (applyStage x.source s) := h.only (applyStage_only s x.source)
  unfold takeAtMast
  dsimp only
  generalize applyStage x.source s = u at applied
  have cleared : Scheduled { putInForce x.order.stamp x.order.view u with
      orders := { (putInForce x.order.stamp x.order.view u).orders with heard := none, mismatch := false } } :=
    applied.only (ps := [.orders, .planner]) (.of_eq rfl)
  exact scheduled_linkTakes cleared

theorem scheduled_judgeTakeMast (h : Scheduled s) : Scheduled (judgeTakeMast s) := by
  unfold judgeTakeMast
  split
  · exact scheduled_takeAtMast h _
  · exact h

theorem scheduled_hearNew (h : Scheduled s) (o : OrderField) : Scheduled (hearNew o s) := by
  have heard := h.only ((judgePlannable_only s o).andThen (rs := [.orders, .planner]) (abandonRunOf_only _ s.orders.heard))
  unfold hearNew
  dsimp only
  split
  · split
    · exact scheduled_takeAtMast heard _
    · exact heard
  · exact heard

theorem scheduled_hearOrders (h : Scheduled s) (m : Steering) : Scheduled (hearOrders m s) := by
  have again := h.only (rejudgeHeard_only s)
  unfold hearOrders
  split
  · split
    · exact again
    · split
      · exact again
      · exact scheduled_hearNew h _
  · dsimp only
    split
    · have marked : Scheduled { rejudgeHeard s with orders := { (rejudgeHeard s).orders with mismatch := true } } :=
        again.only (ps := [.orders]) (.of_eq rfl)
      exact marked.only (raise_only _ _)
    · exact again

/-- C and lead of an accepted message lie in their ranges (R105, R203). -/
theorem timing_of_steeringAcceptable {m : Steering} {n : Count} (h : steeringAcceptable m n s = true) :
    (2 ≤ m.c ∧ m.c ≤ 64) ∧ (24 ≤ m.lead ∧ m.lead ≤ 4096) := by
  simp only [steeringAcceptable, timingListed, Bool.and_eq_true, decide_eq_true_eq] at h
  exact ⟨h.1.2.1.1, h.1.2.1.2, h.1.2.2⟩

theorem scheduled_setTiming (h : Scheduled s) {c lead : Nat} (hc : 2 ≤ c ∧ c ≤ 64) (hl : 24 ≤ lead ∧ lead ≤ 4096) :
    Scheduled (setTiming c lead s) := by
  obtain ⟨-, -, hrest⟩ := h.params
  exact ⟨⟨hc, hl, hrest⟩, h.schedule, h.misses⟩

theorem scheduled_chooseSteering (h : Scheduled s) (m : Steering) (n : Count) : Scheduled (chooseSteering m n s) := by
  unfold chooseSteering
  split
  · next ha =>
    obtain ⟨hc, hl⟩ := timing_of_steeringAcceptable ha
    have heard : Scheduled { s with chan := { channelHears s.chan with fromTruck := some (m, s.count) } } :=
      h.channel (ps := [.chan]) (.of_eq rfl) (Nat.zero_le _)
    have timed : Scheduled (takeTiming m { s with chan := { channelHears s.chan with fromTruck := some (m, s.count) } }) := by
      unfold takeTiming
      split
      · exact scheduled_setTiming heard hc hl
      · exact heard
    have noted : Scheduled (steeringNoted m s) := scheduled_linkHears timed
    have ordered := scheduled_hearOrders (noted.only (hearItem_only _ m)) m
    rw [hearSteering_eq]
    exact ordered.channel (ps := [.chan]) (.of_eq rfl) ordered.misses
  · exact h

theorem scheduled_chooseReply (h : Scheduled s) (m : Reply) : Scheduled (chooseReply m s) := by
  unfold chooseReply
  split
  · have heard : Scheduled { s with chan := { channelHears s.chan with fromMast := some (m, s.count) } } :=
      h.channel (ps := [.chan]) (.of_eq rfl) (Nat.zero_le _)
    exact (scheduled_linkHears heard).only (readReply_only _ m)
  · exact h

/-- CONFIGURE moves every value into its range (R187). -/
theorem scheduled_configure (h : Scheduled s) (body : List Byte) :
    Scheduled (writeParams (writtenParams body s.params) s) := by
  obtain ⟨hc, hlead, hmiss, hbase, hscale, hcall, hrecall, hreadmit⟩ := h.params
  refine ⟨⟨written_bounds (by decide) hc _, written_bounds (by decide) hlead _, written_bounds (by decide) hmiss _,
    written_bounds (by decide) hbase _, (written_bounds (by decide) ⟨Nat.zero_le _, hscale⟩ _).2,
    written_bounds (by decide) hcall _, (written_bounds (by decide) ⟨Nat.zero_le _, hrecall⟩ _).2,
    written_bounds (by decide) hreadmit _⟩, h.schedule, h.misses⟩

theorem scheduled_softReset (h : Scheduled s) : Scheduled (softReset s) :=
  ⟨h.params, onSchedule_stopped (k := Link.cleared) (by decide) rfl rfl rfl, Nat.zero_le _⟩

theorem scheduled_advance (h : Scheduled s) : Scheduled (advance s) :=
  ⟨h.params, h.schedule.moved Iff.rfl rfl rfl (tick_isSome _), h.misses⟩

end

/-- Every operation keeps parameters, call schedule and miss count as promised. -/
theorem scheduled_kept : Kept Scheduled where
  aside ha h := h.aside ha
  blank h := scheduled_blank h
  window h := scheduled_expireWindow h
  gap h := scheduled_expireGap h
  recallWait h := scheduled_expireRecall h
  runEnd h := h.only (judgeRunEnd_only _)
  cycleEnd h := scheduled_judgeCycleEnd h
  holdover h := scheduled_judgeHoldover h
  takeTruck h := scheduled_judgeTakeTruck h
  takeMast h := scheduled_judgeTakeMast h
  completion h := h.only (judgeCompletion_only _)
  evaluate l input h := h.only (evaluateLane_only _ l input)
  deliver h := h.only (deliverSuperframe_only _)
  steering m n h := scheduled_chooseSteering h m n
  reply m h := scheduled_chooseReply h m
  fullSync h := h.only (judgeFullSync_only _)
  issue h := h.only (judgeIssue_only _)
  sending h := (h.only (takeForSending_only _)).only (settlePool_only _)
  cell port cell h := h.only (arriveCell_only _ port cell)
  clear n h := h.only (ps := [.slots]) (.of_eq rfl)
  configure body _ h := scheduled_configure h body
  stage e es _ _ _ h := h.only (ps := [.changes]) (.of_eq rfl)
  discard _ _ h := (h.only (ps := [.changes]) (.of_eq rfl)).only (abandonCommit_only _)
  commit code _ h := h.only (ps := [.orders]) (.of_eq rfl)
  trigger code epoch h := h.only (ps := [.orders]) (.ite (fun _ => .of_eq rfl) fun _ => .refl _ _)
  linkStart _ h := (scheduled_moveToCalling h).only (ps := [.counting]) (.of_eq rfl)
  linkStop _ h := scheduled_moveToStandby h
  softReset h := scheduled_softReset h

end Sys2Proof.LinkPromise
end

section
/-! What every step keeps of a link in STANDBY or CALLING: nothing of a plan, an order, a transfer or the far end is held
(R45, R119, R130, R131). -/

-- One declaration after another: side by side, the proofs of the text need more memory than its check allows.
set_option Elab.async false

namespace Sys2Proof.LinkPromise

open Sys2Proof Sys2Proof.Machine Sys2Proof.Claims Sys2Proof.Frame Sys2Proof.Slots Sys2Proof.RolePromise
  Sys2Proof.QueuePromise

/-- The link is in STANDBY or CALLING. -/
def Waits (s : State) : Prop := s.link.state = .standby ∨ s.link.state = .calling

/-- The orders hold nothing but what the truck end keeps of its commit and its order numbers (R131). -/
structure OrdersIdle (o : Orders) : Prop where
  stamp : o.stamp = Stamp.zero
  view : o.view = none
  pending : o.pending = none
  heard : o.heard = none
  fullSync : o.fullSync = none
  decision : o.decision = none
  resync : o.resync = none
  mismatchCount : o.mismatchCount = 0
  mismatch : o.mismatch = false
  ready : o.ready = none

/-- The planner holds no run and no plan (R45). -/
structure PlannerIdle (p : Planner) : Prop where
  run : p.run = none
  next : p.next = none
  current : p.current = none

/-- The channel has no far-end report and counts no miss (R116, R119). -/
structure ChannelIdle (c : Channel) : Prop where
  fromMast : c.fromMast = none
  fromTruck : c.fromTruck = none
  missCount : c.missCount = 0
  silent : c.silent = false

/-- Nothing of a plan, an order, a transfer or the far end is held. -/
structure Idle (s : State) : Prop where
  orders : OrdersIdle s.orders
  planner : PlannerIdle s.planner
  stage : s.stage = StageArea.empty
  limits : s.service.limits = none
  queues : ∀ x ∈ s.table.slots, x.queue = []
  chan : ChannelIdle s.chan
  origin : s.link.origin = none
  holdCount : s.link.holdCount = 0

/-- A waiting link holds nothing. -/
def HoldsNothing (s : State) : Prop := Waits s → Idle s

theorem holdsNothing_iff (s : State) : HoldsNothing s ↔ LinkHoldsNothing s := by
  refine imp_congr_right fun _ => ?_
  constructor
  · rintro ⟨⟨h1, h2, h3, h4, h5, h6, h7, h8, h9, h10⟩, ⟨h11, h12, h13⟩, h14, h15, h16, ⟨h17, h18, h19, h20⟩, h21, h22⟩
    exact ⟨h1, h2, h3, h4, h5, h6, h7, h8, h9, h10, h11, h12, h13, h14, h15, h16, h17, h18, h19, h20, h21, h22⟩
  · rintro ⟨h1, h2, h3, h4, h5, h6, h7, h8, h9, h10, h11, h12, h13, h14, h15, h16, h17, h18, h19, h20, h21, h22⟩
    exact ⟨⟨h1, h2, h3, h4, h5, h6, h7, h8, h9, h10⟩, ⟨h11, h12, h13⟩, h14, h15, h16, ⟨h17, h18, h19, h20⟩, h21, h22⟩

section
variable {s t : State}

/-- Without a current plan none is in force. -/
theorem Idle.planInForce (h : Idle s) : planInForce s = none := by
  unfold Machine.planInForce
  rw [h.planner.current]

theorem waits_congr (h : t.link.state = s.link.state) : Waits t ↔ Waits s := by unfold Waits; rw [h]

theorem not_waits_of (h : ¬ Waits s) (hl : t.link = s.link) : ¬ Waits t := by
  rwa [waits_congr (s := s) (by rw [hl])]

theorem not_waits_iff (s : State) : ¬ Waits s ↔ s.link.state = .syncing ∨ s.link.state = .carrying ∨ s.link.state = .holdover := by
  unfold Waits
  cases s.link.state <;> simp

/-- A step that leaves the link state, and keeps an idle part idle. -/
theorem HoldsNothing.step (h : HoldsNothing s) (hl : t.link.state = s.link.state) (hi : Waits s → Idle s → Idle t) :
    HoldsNothing t := fun hw => hi ((waits_congr hl).1 hw) (h ((waits_congr hl).1 hw))

/-- A link that does not wait. -/
theorem holdsNothing_away (h : ¬ Waits t) : HoldsNothing t := fun hw => absurd hw h

/-- The parts that the promise takes no account of. -/
def freeParts : List Part :=
  .count :: .counting :: .params :: .generation :: .changes :: .exhausted :: asideParts

/-- An idle part in which other parts than those of the promise were written. -/
theorem Idle.only (h : Idle s) {ps : List Part} (ho : Only ps s t) (hp : ∀ p ∈ ps, p ∈ freeParts := by decide) : Idle t := by
  have out {p : Part} (hq : p ∉ freeParts) : p ∉ ps := fun hm => hq (hp p hm)
  have hlink := ho.link (out (by decide))
  exact ⟨by rw [ho.orders (out (by decide))]; exact h.orders, by rw [ho.planner (out (by decide))]; exact h.planner,
    (ho.stage (out (by decide))).trans h.stage, (ho.limits (out (by decide))).trans h.limits,
    by rw [ho.slots (out (by decide))]; exact h.queues, by rw [ho.chan (out (by decide))]; exact h.chan,
    by rw [hlink]; exact h.origin, by rw [hlink]; exact h.holdCount⟩

theorem HoldsNothing.only (h : HoldsNothing s) {ps : List Part} (ho : Only ps s t)
    (hp : ∀ p ∈ ps, p ∈ freeParts := by decide) : HoldsNothing t := by
  have hl : Part.link ∉ ps := fun hm => absurd (hp _ hm) (by decide)
  exact h.step (by rw [ho.link hl]) fun _ hi => hi.only ho hp

theorem HoldsNothing.aside (h : HoldsNothing s) (ha : Aside s t) : HoldsNothing t := by
  have ho := ha.parts
  refine h.step (by rw [ho.link]) fun _ hi => ?_
  obtain ⟨hfm, hft, hmiss, hsilent⟩ := hi.chan
  exact ⟨by rw [ho.orders]; exact hi.orders, by rw [ho.planner]; exact hi.planner, ho.stage.trans hi.stage,
    ho.limits.trans hi.limits, by rw [ho.slots]; exact hi.queues,
    by rw [ha.chan]; exact ⟨hfm, hft, hmiss, hsilent⟩, by rw [ho.link]; exact hi.origin, by rw [ho.link]; exact hi.holdCount⟩

/-- Orders that stay idle, and slots whose queues stay empty, in an idle part. -/
theorem Idle.written (h : Idle s) {ps : List Part} (ho : Only ps s t) (hq : ∀ x ∈ t.table.slots, x.queue = [])
    (hi : OrdersIdle t.orders) (hp : ∀ p ∈ ps, p ∈ .slots :: .orders :: freeParts := by decide) : Idle t := by
  have out {p : Part} (hq : p ∉ .slots :: .orders :: freeParts) : p ∉ ps := fun hm => hq (hp p hm)
  have hlink := ho.link (out (by decide))
  exact ⟨hi, by rw [ho.planner (out (by decide))]; exact h.planner,
    (ho.stage (out (by decide))).trans h.stage, (ho.limits (out (by decide))).trans h.limits,
    hq, by rw [ho.chan (out (by decide))]; exact h.chan, by rw [hlink]; exact h.origin, by rw [hlink]; exact h.holdCount⟩

theorem idle_blank (h : Blank t) : Idle t := by
  have horders : t.orders = Orders.cleared := h.orders
  have hplanner : t.planner = Planner.empty := h.planner
  have hslots : t.table.slots = [] := h.slots
  have hchan : t.chan = Channel.cleared := h.chan
  have hlink : t.link = Link.cleared := h.link
  refine ⟨?_, ?_, h.stage, h.limits, by simp [hslots], ?_, by rw [hlink]; rfl, by rw [hlink]; rfl⟩
  · rw [horders]; exact ⟨rfl, rfl, rfl, rfl, rfl, rfl, rfl, rfl, rfl, rfl⟩
  · rw [hplanner]; exact ⟨rfl, rfl, rfl⟩
  · rw [hchan]; exact ⟨rfl, rfl, rfl, rfl⟩

/-! ### Moves of the link -/

/-- A drop leaves nothing held (R131). -/
theorem idle_dropAll (s : State) : Idle (dropAll s) := by
  obtain ⟨hplanner, hstage, hchan, hlink, horders, htable, hservice⟩ := dropAll_fields s
  refine ⟨?_, ?_, hstage, by rw [hservice], fun y hy => ?_, ?_, by rw [hlink], by rw [hlink]⟩
  · rw [horders]; exact ⟨rfl, rfl, rfl, rfl, rfl, rfl, rfl, rfl, rfl, rfl⟩
  · rw [hplanner]; exact ⟨rfl, rfl, rfl⟩
  · rw [htable] at hy
    obtain ⟨x, -, rfl⟩ := List.mem_map.1 hy
    exact emptied_of_trim x
  · rw [hchan]; exact ⟨rfl, rfl, rfl, rfl⟩

/-- The link moved, with neither origin nor holdover count. -/
theorem Idle.linked (h : Idle s) {ps : List Part} (ho : Only ps s t) (hlo : t.link.origin = s.link.origin)
    (hlc : t.link.holdCount = s.link.holdCount) (hp : ∀ p ∈ ps, p ∈ .link :: freeParts := by decide) : Idle t := by
  have out {p : Part} (hq : p ∉ .link :: freeParts) : p ∉ ps := fun hm => hq (hp p hm)
  exact ⟨by rw [ho.orders (out (by decide))]; exact h.orders, by rw [ho.planner (out (by decide))]; exact h.planner,
    (ho.stage (out (by decide))).trans h.stage, (ho.limits (out (by decide))).trans h.limits,
    by rw [ho.slots (out (by decide))]; exact h.queues, by rw [ho.chan (out (by decide))]; exact h.chan,
    hlo.trans h.origin, hlc.trans h.holdCount⟩

theorem idle_moveToCalling (s : State) : Idle (moveToCalling s) :=
  (idle_dropAll s).linked (ps := [.link, .flags])
    ((setLink_only (dropAll s) .calling).also ((startRound_only _).mono (qs := [.link, .flags])))
    (by rw [moveToCalling_link]) (by rw [moveToCalling_link])

theorem idle_moveToStandby (s : State) : Idle (moveToStandby s) :=
  (idle_dropAll s).linked (ps := [.link, .flags])
    ((setLink_only (dropAll s) .standby).also ((stopSchedule_only _).mono (qs := [.link, .flags])))
    (by rw [moveToStandby_link]) (by rw [moveToStandby_link])

theorem holdsNothing_startPhase (h : HoldsNothing s) (p : CallPhase) (a n : Nat) : HoldsNothing (startPhase p a n s) :=
  h.step rfl fun _ hi => hi.linked (startPhase_only s p a n) rfl rfl

theorem holdsNothing_expireWindow (h : HoldsNothing s) : HoldsNothing (expireWindow s) := by
  unfold expireWindow failRound
  dsimp only
  split_ifs
  · exact holdsNothing_startPhase h _ _ _
  · exact fun _ => idle_moveToStandby _
  · exact holdsNothing_startPhase (h.only (raise_only s .callFailed)) _ _ _
  · exact h

theorem holdsNothing_expireGap (h : HoldsNothing s) : HoldsNothing (expireGap s) := by
  unfold expireGap
  split
  · exact holdsNothing_startPhase h _ _ _
  · exact h

theorem holdsNothing_expireRecall (h : HoldsNothing s) : HoldsNothing (expireRecall s) := by
  unfold expireRecall
  split
  · exact holdsNothing_startPhase h _ _ _
  · exact h

/-- An order that is taken keeps the link from waiting (R124, R125, R127). -/
theorem not_waits_linkTakes (h : ¬ Waits s) : ¬ Waits (linkTakes s) := by
  rw [not_waits_iff] at h ⊢
  unfold linkTakes
  split
  · rw [setLink_link]; exact .inr (.inl rfl)
  · next hs => exact .inr (.inr hs)
  · exact h

/-- A far-end message that is heard outside STANDBY leaves a link that does not wait (R107, R110). -/
theorem not_waits_linkHears (h : s.link.state ≠ .standby) : ¬ Waits (linkHears s) := by
  rw [not_waits_iff]
  unfold linkHears
  split
  · unfold moveToSyncing stopSchedule
    dsimp only
    rw [setLink_link]
    exact .inl rfl
  · unfold returnFromHoldover originState
    dsimp only
    rw [setLink_link]
    dsimp only
    split
    · exact .inl rfl
    · exact .inr (.inl rfl)
  · next hc hh => cases hs : s.link.state <;> simp_all

/-! ### Control cycles -/

theorem formMessage_idle (h : Idle s) : Idle (formMessage s) := by
  have ho := formMessage_only s
  obtain ⟨hfm, hft⟩ := formMessage_from s
  have hsilent : (formMessage s).chan.silent = s.chan.silent := by
    unfold formMessage
    split
    · rfl
    · split
      · split <;> rfl
      · split
        · split <;> rfl
        · rfl
  refine ⟨?_, by rw [ho.planner]; exact h.planner, ho.stage.trans h.stage, ho.limits.trans h.limits,
    by rw [ho.slots]; exact h.queues, ⟨hfm.trans h.chan.fromMast, hft.trans h.chan.fromTruck,
      (formMessage_missCount s).trans h.chan.missCount, hsilent.trans h.chan.silent⟩,
    by rw [ho.link]; exact h.origin, by rw [ho.link]; exact h.holdCount⟩
  obtain ⟨h1, h2, h3, h4, h5, h6, h7, h8, h9, h10⟩ := h.orders
  rcases formMessage_orders s with he | he
  · rw [he]; exact h.orders
  · rw [he]; exact ⟨h1, h2, h3, h4, by simp [mapTransfers, h5], h6, h7, h8, h9, h10⟩

theorem holdsNothing_formMessage (h : HoldsNothing s) : HoldsNothing (formMessage s) :=
  h.step (by rw [(formMessage_only s).link]) fun _ => formMessage_idle

theorem enterHoldover_state (o : Origin) (s : State) : (enterHoldover o s).link.state = .holdover := by
  unfold enterHoldover
  dsimp only
  rw [setLink_link]

/-- A waiting link judges no cycle (R112). -/
theorem judgeCycle_of_waits (h : Waits s) : judgeCycle s = s := by
  unfold judgeCycle
  rcases h with h | h <;> rw [h]

/-- A link that does not wait is not moved to one that does by the judgement of a cycle (R127). -/
theorem not_waits_judgeCycle (h : ¬ Waits s) : ¬ Waits (judgeCycle s) := by
  have away {t : State} (ht : t.link.state = .holdover ∨ t.link.state = s.link.state) : ¬ Waits t := by
    rcases ht with ht | ht
    · exact (not_waits_iff t).2 (.inr (.inr ht))
    · rwa [waits_congr ht]
  refine away ?_
  unfold judgeCycle
  dsimp only
  split
  · split
    · exact .inl (enterHoldover_state _ _)
    · exact .inr rfl
  · split
    · exact .inl (enterHoldover_state _ _)
    · exact .inr rfl
  · exact .inr rfl
  · exact .inr rfl

theorem holdsNothing_judgeCycleEnd (h : HoldsNothing s) : HoldsNothing (judgeCycleEnd s) := by
  have limit : HoldsNothing (formLimit s) := h.step rfl fun _ hi => hi.linked (ps := [.link]) (.of_eq rfl) rfl rfl
  have judged : HoldsNothing (if endsVoid (formLimit s).params.c (formLimit s).count then formLimit s
      else judgeCycle (formLimit s)) := by
    split
    · exact limit
    · by_cases hw : Waits (formLimit s)
      · rw [judgeCycle_of_waits hw]
        exact limit
      · exact holdsNothing_away (not_waits_judgeCycle hw)
  unfold judgeCycleEnd endCycle
  dsimp only
  generalize (if endsVoid (formLimit s).params.c (formLimit s).count = true then formLimit s
      else judgeCycle (formLimit s)) = u at judged
  have ended : HoldsNothing { u with chan := { u.chan with accepted := false, cycleDue := false } } := by
    refine judged.step rfl fun _ hi => ?_
    obtain ⟨hfm, hft, hmiss, hsilent⟩ := hi.chan
    exact ⟨hi.orders, hi.planner, hi.stage, hi.limits, hi.queues, ⟨hfm, hft, hmiss, hsilent⟩, hi.origin, hi.holdCount⟩
  split
  · split
    · exact ended
    · exact holdsNothing_formMessage ended
  · exact h

theorem holdsNothing_judgeHoldover (h : HoldsNothing s) : HoldsNothing (judgeHoldover s) := by
  unfold judgeHoldover
  split
  · exact holdsNothing_formMessage fun _ => idle_moveToCalling s
  · exact h

/-- No run ends while none is in progress (R42). -/
theorem judgeRunEnd_of_idle (h : Idle s) : judgeRunEnd s = s := by
  unfold judgeRunEnd runDue
  rw [h.planner.run]
  rfl

theorem holdsNothing_judgeRunEnd (h : HoldsNothing s) : HoldsNothing (judgeRunEnd s) :=
  h.step (by rw [(judgeRunEnd_only s).link]) fun _ hi => by rwa [judgeRunEnd_of_idle hi]

/-! ### Orders and commits -/

theorem judgeTakeTruck_of_idle (h : Idle s) : judgeTakeTruck s = s := by
  unfold judgeTakeTruck takeDueTruck
  rw [h.orders.pending]
  simp

theorem judgeTakeMast_of_idle (h : Idle s) : judgeTakeMast s = s := by
  unfold judgeTakeMast takeDueMast
  rw [h.orders.heard]
  simp

theorem not_waits_takeAtTruck (h : ¬ Waits s) (o : Order) : ¬ Waits (takeAtTruck o s) := by
  have hdone : (if o.kind = .commit then completeOrdered s else s).link = s.link := by
    split
    · exact (completeOrdered_only s).link
    · rfl
  unfold takeAtTruck
  refine not_waits_linkTakes ?_
  rwa [waits_congr (s := s)]
  simp [hdone]

theorem not_waits_takeAtMast (h : ¬ Waits s) (x : HeardOrder) : ¬ Waits (takeAtMast x s) := by
  unfold takeAtMast
  refine not_waits_linkTakes ?_
  rwa [waits_congr (s := s)]
  simp [(applyStage_only s x.source).link]

theorem holdsNothing_judgeTakeTruck (h : HoldsNothing s) : HoldsNothing (judgeTakeTruck s) := by
  by_cases hw : Waits s
  · rw [judgeTakeTruck_of_idle (h hw)]
    exact h
  · unfold judgeTakeTruck
    split
    · exact holdsNothing_away (not_waits_takeAtTruck hw _)
    · exact h

theorem holdsNothing_judgeTakeMast (h : HoldsNothing s) : HoldsNothing (judgeTakeMast s) := by
  by_cases hw : Waits s
  · rw [judgeTakeMast_of_idle (h hw)]
    exact h
  · unfold judgeTakeMast
    split
    · exact holdsNothing_away (not_waits_takeAtMast hw _)
    · exact h

/-- Edits leave empty queues empty (R20, R21, R173). -/
theorem applyEdits_empty (role : Role) (es : List Edit) {xs : List Slot} (h : ∀ x ∈ xs, x.queue = []) :
    ∀ x ∈ applyEdits role xs es, x.queue = [] := by
  have put {xs : List Slot} {y : Slot} (h : ∀ x ∈ xs, x.queue = []) (hy : y.queue = []) :
      ∀ x ∈ putSlot y xs, x.queue = [] := fun x hx => by
    rcases mem_putSlot hx with rfl | hx
    · exact hy
    · exact h x hx
  induction es generalizing xs with
  | nil => exact h
  | cons e es ih =>
    refine ih ?_
    cases e with
    | add r => exact put h rfl
    | modify r =>
      unfold applyEdit
      dsimp only
      split
      · next y hy =>
        refine put h ?_
        unfold modifySlot
        split
        · exact h y (mem_of_slotAt hy).1
        · rfl
      · exact put h rfl
    | retire n => exact fun x hx => h x (List.mem_filter.1 hx).1

theorem idle_completeCommit (h : Idle s) (j : CommitJob) (epoch : Count) (moved : Bool) :
    Idle (completeCommit j epoch moved s) := by
  refine h.written (completeCommit_only s j epoch moved) ?_ ?_
  · have hslots : (completeCommit j epoch moved s).table.slots = applyEdits s.role s.table.slots s.changes := by
      unfold completeCommit applyChangeSet
      simp [putTable_table]
    rw [hslots]
    exact applyEdits_empty _ _ h.queues
  · obtain ⟨h1, h2, h3, h4, h5, h6, h7, h8, h9, h10⟩ := h.orders
    rw [completeCommit_orders]
    exact ⟨h1, h2, h3, h4, h5, h6, h7, h8, h9, h10⟩

theorem holdsNothing_judgeCompletion (h : HoldsNothing s) : HoldsNothing (judgeCompletion s) := by
  refine h.step (by rw [(judgeCompletion_only s).link]) fun _ hi => ?_
  unfold judgeCompletion
  split
  · split
    · split
      · exact idle_completeCommit hi _ _ _
      · exact hi
    · exact hi
  · exact hi

theorem not_waits_hearOrders (h : ¬ Waits s) (m : Steering) : ¬ Waits (hearOrders m s) := by
  have again : ¬ Waits (rejudgeHeard s) := not_waits_of h (rejudgeHeard_only s).link
  unfold hearOrders
  split
  · split
    · exact again
    · split
      · exact again
      · next o _ _ _ =>
        have heard : ¬ Waits (abandonRunOf s.orders.heard (judgePlannable o s)) :=
          not_waits_of h ((abandonRunOf_only _ _).link.trans (judgePlannable_only s o).link)
        unfold hearNew
        dsimp only
        split
        · split
          · exact not_waits_takeAtMast heard _
          · exact heard
        · exact heard
  · dsimp only
    split <;> exact again

/-- A steering message is accepted in no STANDBY (R105). -/
theorem link_of_steeringAcceptable {m : Steering} {n : Count} (h : steeringAcceptable m n s = true) :
    s.link.state ≠ .standby := by
  intro hs
  simp [steeringAcceptable, hs] at h

theorem link_of_replyAcceptable {m : Reply} (h : replyAcceptable m s = true) : s.link.state ≠ .standby := by
  simp only [replyAcceptable, Bool.and_eq_true, decide_eq_true_eq] at h
  exact h.1.2

theorem holdsNothing_chooseSteering (h : HoldsNothing s) (m : Steering) (n : Count) :
    HoldsNothing (chooseSteering m n s) := by
  unfold chooseSteering
  split
  · next ha =>
    have hs : (takeTiming m { s with chan := { channelHears s.chan with fromTruck := some (m, s.count) } }).link.state ≠
        .standby := by
      rw [(takeTiming_only _ m).link]
      exact link_of_steeringAcceptable ha
    have noted : ¬ Waits (hearItem m (steeringNoted m s)) :=
      not_waits_of (not_waits_linkHears hs) (hearItem_only _ m).link
    rw [hearSteering_eq]
    exact holdsNothing_away (not_waits_hearOrders noted m)
  · exact h

theorem holdsNothing_chooseReply (h : HoldsNothing s) (m : Reply) : HoldsNothing (chooseReply m s) := by
  unfold chooseReply
  split
  · next ha =>
    rw [hearReply_eq]
    refine holdsNothing_away ?_
    have noted : ¬ Waits (replyNoted m s) := not_waits_linkHears (link_of_replyAcceptable ha)
    exact not_waits_of noted (readReply_only _ m).link
  · exact h

theorem holdsNothing_judgeFullSync (h : HoldsNothing s) : HoldsNothing (judgeFullSync s) := by
  refine h.step (by rw [(judgeFullSync_only s).link]) fun _ hi => ?_
  unfold judgeFullSync
  rw [if_neg (by simp [fullSyncDue, hi.orders.resync])]
  exact hi

theorem holdsNothing_judgeIssue (h : HoldsNothing s) : HoldsNothing (judgeIssue s) := by
  refine h.step (by rw [(judgeIssue_only s).link]) fun hw hi => ?_
  unfold judgeIssue
  rw [if_neg fun hd => (not_waits_iff s).2 (hd.2.1.imp_right .inl) hw]
  exact hi

/-! ### Cells and requests -/

theorem holdsNothing_sending (h : HoldsNothing s) : HoldsNothing (settlePool (takeForSending s).2) := by
  have ho := takeForSending_only s
  refine h.step (by rw [(settlePool_only _).link, ho.link]) fun _ hi => ?_
  have hnone : (takeForSending s).2 = s := by
    unfold takeForSending
    rw [hi.planInForce]
  rw [hnone]
  exact hi.only (settlePool_only s)

theorem holdsNothing_deliver (h : HoldsNothing s) : HoldsNothing (deliverSuperframe s) := by
  refine h.step (by rw [(deliverSuperframe_only s).link]) fun _ hi => ?_
  have hnone : planInForce s = none := hi.planInForce
  unfold deliverSuperframe
  dsimp only
  rw [hnone]
  exact hi.only (ps := [.delivered]) (.of_eq rfl)

theorem holdsNothing_arriveCell (h : HoldsNothing s) (port : Fin 32) (cell : Cell) : HoldsNothing (arriveCell port cell s) := by
  refine h.step (by rw [(arriveCell_only s port cell).link]) fun _ hi => ?_
  unfold arriveCell
  split
  · next x hx =>
    have hmem : x ∈ s.table.slots := List.mem_of_find?_eq_some hx
    unfold judgeCell
    rw [if_pos hi.planInForce]
    refine hi.written (dropCell_only s x) (fun y hy => ?_) (by rw [(dropCell_only s x).orders]; exact hi.orders)
    unfold dropCell at hy
    rw [writeCounted_slots] at hy
    rcases mem_putSlot hy with rfl | hy
    · exact hi.queues x hmem
    · exact hi.queues y hy
  · exact hi.only (strayCell_only s)

theorem holdsNothing_clear (h : HoldsNothing s) (n : Fin 64) : HoldsNothing (clearCircuit n s) := by
  refine h.step rfl fun _ hi => hi.written (ps := [.slots]) (.of_eq rfl) (fun y hy => ?_) hi.orders
  obtain ⟨x, hx, rfl⟩ := List.mem_map.1 hy
  split <;> exact hi.queues x hx

theorem holdsNothing_configure (h : HoldsNothing s) (p : Params) : HoldsNothing (writeParams p s) := by
  refine h.step rfl fun _ hi => ?_
  obtain ⟨hfm, hft, hmiss, hsilent⟩ := hi.chan
  exact ⟨hi.orders, hi.planner, hi.stage, hi.limits, hi.queues, ⟨hfm, hft, hmiss, hsilent⟩, hi.origin, hi.holdCount⟩

/-- A commit procedure that begins, moves or ends leaves an idle part idle. -/
theorem HoldsNothing.commits (h : HoldsNothing s) {ps : List Part} (ho : Only ps s t)
    (hc : t.orders = { s.orders with commit := t.orders.commit })
    (hp : ∀ p ∈ ps, p ∈ .orders :: freeParts := by decide) : HoldsNothing t := by
  have out {p : Part} (hq : p ∉ .orders :: freeParts) : p ∉ ps := fun hm => hq (hp p hm)
  refine h.step (by rw [ho.link (out (by decide))]) fun _ hi => ?_
  refine hi.written ho (by rw [ho.slots (out (by decide))]; exact hi.queues) ?_ fun p hm => List.mem_cons_of_mem _ (hp p hm)
  obtain ⟨h1, h2, h3, h4, h5, h6, h7, h8, h9, h10⟩ := hi.orders
  rw [hc]
  exact ⟨h1, h2, h3, h4, h5, h6, h7, h8, h9, h10⟩

theorem idle_softReset (s : State) : Idle (softReset s) := by
  refine ⟨⟨rfl, rfl, rfl, rfl, rfl, rfl, rfl, rfl, rfl, rfl⟩, ⟨rfl, rfl, rfl⟩, rfl, rfl, fun y hy => ?_,
    ⟨rfl, rfl, rfl, rfl⟩, rfl, rfl⟩
  obtain ⟨x, -, rfl⟩ := List.mem_map.1 hy
  rfl

theorem holdsNothing_advance (h : HoldsNothing s) : HoldsNothing (advance s) := by
  refine h.step rfl fun _ hi => ?_
  obtain ⟨hrun, hnext, hcurrent⟩ := hi.planner
  obtain ⟨hfm, hft, hmiss, hsilent⟩ := hi.chan
  exact ⟨hi.orders, ⟨hrun, hnext, hcurrent⟩, hi.stage, hi.limits, hi.queues, ⟨hfm, hft, hmiss, hsilent⟩, hi.origin,
    hi.holdCount⟩

end

/-- Every operation leaves a waiting link with nothing held. -/
theorem holdsNothing_kept : Kept HoldsNothing where
  aside ha h := h.aside ha
  blank h := fun _ => idle_blank h
  window h := holdsNothing_expireWindow h
  gap h := holdsNothing_expireGap h
  recallWait h := holdsNothing_expireRecall h
  runEnd h := holdsNothing_judgeRunEnd h
  cycleEnd h := holdsNothing_judgeCycleEnd h
  holdover h := holdsNothing_judgeHoldover h
  takeTruck h := holdsNothing_judgeTakeTruck h
  takeMast h := holdsNothing_judgeTakeMast h
  completion h := holdsNothing_judgeCompletion h
  evaluate l input h := h.only (evaluateLane_only _ l input)
  deliver h := holdsNothing_deliver h
  steering m n h := holdsNothing_chooseSteering h m n
  reply m h := holdsNothing_chooseReply h m
  fullSync h := holdsNothing_judgeFullSync h
  issue h := holdsNothing_judgeIssue h
  sending h := holdsNothing_sending h
  cell port cell h := holdsNothing_arriveCell h port cell
  clear n h := holdsNothing_clear h n
  configure body _ h := holdsNothing_configure h _
  stage e es _ _ _ h := h.only (ps := [.changes]) (.of_eq rfl)
  discard _ _ h := (h.only (ps := [.changes]) (.of_eq rfl)).commits (abandonCommit_only _) (by rw [abandonCommit_orders])
  commit code _ h := h.commits (ps := [.orders]) (.of_eq rfl) rfl
  trigger code epoch h := by
    unfold triggerCommit
    split
    · exact h.commits (ps := [.orders]) (.of_eq rfl) rfl
    · exact h
  linkStart {s} _ _ := fun _ => (idle_moveToCalling s).only (ps := [.counting]) (.of_eq rfl)
  linkStop {s} _ _ := fun _ => idle_moveToStandby s
  softReset {s} _ := fun _ => idle_softReset s

end Sys2Proof.LinkPromise
end

section
/-! What every step keeps of a pending order's epoch (R141, R142), and with it the whole promise of the link. -/

-- One declaration after another: side by side, the proofs of the text need more memory than its check allows.
set_option Elab.async false

namespace Sys2Proof.LinkPromise

open Sys2Proof Sys2Proof.Machine Sys2Proof.Claims Sys2Proof.Frame Sys2Proof.RolePromise Sys2Proof.LanePromise

/-- A pending order is the truck end's, and its epoch lies at least `k` superframes ahead and has not been passed. -/
structure Timed (k : Nat) (s : State) : Prop where
  mast : s.role = .mast → s.orders.pending = none
  lead : 24 ≤ s.params.lead ∧ s.params.lead ≤ 4096
  epoch : ∀ o : Order, s.orders.pending = some o → k ≤ (o.epoch - s.count).toNat ∧ (o.epoch - s.count).toNat < 2 ^ 31

section
variable {k : Nat} {s t : State}

theorem Timed.same (h : Timed k s) (hr : t.role = s.role) (hl : t.params.lead = s.params.lead) (hc : t.count = s.count)
    (hp : t.orders.pending = s.orders.pending) : Timed k t :=
  ⟨fun hm => hp.trans (h.mast (hr ▸ hm)), by rw [hl]; exact h.lead, fun o ho => by rw [hc]; exact h.epoch o (hp ▸ ho)⟩

theorem timed_withdrawn (hl : 24 ≤ t.params.lead ∧ t.params.lead ≤ 4096) (hp : t.orders.pending = none) : Timed k t :=
  ⟨fun _ => hp, hl, fun o ho => by rw [hp] at ho; cases ho⟩

/-- The parts that the promise takes no account of. -/
def untimedParts : List Part :=
  .counting :: .slots :: .generation :: .changes :: .stage :: .planner :: .chan :: .link :: .exhausted :: .limits ::
    asideParts

theorem Timed.ordered (h : Timed k s) {ps : List Part} (ho : Only ps s t) (hp : t.orders.pending = s.orders.pending)
    (hps : ∀ p ∈ ps, p ∈ .orders :: untimedParts := by decide) : Timed k t := by
  have out {p : Part} (hq : p ∉ .orders :: untimedParts) : p ∉ ps := fun hm => hq (hps p hm)
  exact h.same (ho.role (out (by decide))) (by rw [ho.params (out (by decide))]) (ho.count (out (by decide))) hp

theorem Timed.only (h : Timed k s) {ps : List Part} (ho : Only ps s t)
    (hps : ∀ p ∈ ps, p ∈ untimedParts := by decide) : Timed k t := by
  have out {p : Part} (hq : p ∉ untimedParts) : p ∉ ps := fun hm => hq (hps p hm)
  exact h.ordered ho (by rw [ho.orders (out (by decide))]) fun p hm => List.mem_cons_of_mem _ (hps p hm)

theorem timed_blank (h : Blank t) : Timed k t := by
  have hparams : t.params = State.reset.params := h.params
  have horders : t.orders = Orders.cleared := h.orders
  exact timed_withdrawn (by rw [hparams]; decide) (by rw [horders]; rfl)

/-! ### Moves of the link -/

theorem timed_moveToCalling (h : Timed k s) : Timed k (moveToCalling s) :=
  timed_withdrawn (by rw [(moveToCalling_only s).params]; exact h.lead) (idle_moveToCalling s).orders.pending

theorem timed_moveToStandby (h : Timed k s) : Timed k (moveToStandby s) :=
  timed_withdrawn (by rw [(moveToStandby_only s).params]; exact h.lead) (idle_moveToStandby s).orders.pending

theorem timed_expireWindow (h : Timed k s) : Timed k (expireWindow s) := by
  unfold expireWindow failRound
  dsimp only
  split_ifs
  · exact h.only (startPhase_only s _ _ _)
  · exact timed_moveToStandby (h.only (raise_only s _))
  · exact (h.only (raise_only s .callFailed)).only (startPhase_only _ _ _ _)
  · exact h

theorem formMessage_pending (s : State) : (formMessage s).orders.pending = s.orders.pending := by
  rcases formMessage_orders s with h | h <;> rw [h]
  rfl

theorem timed_formMessage (h : Timed k s) : Timed k (formMessage s) := h.ordered (formMessage_only s) (formMessage_pending s)

theorem timed_judgeHoldover (h : Timed k s) : Timed k (judgeHoldover s) := by
  unfold judgeHoldover
  split
  · exact timed_formMessage (timed_moveToCalling h)
  · exact h

/-- The end of a cycle leaves the pending order (R112). -/
theorem judgeCycleEnd_pending (s : State) : (judgeCycleEnd s).orders.pending = s.orders.pending := by
  have judged : (if endsVoid (formLimit s).params.c (formLimit s).count then formLimit s
      else judgeCycle (formLimit s)).orders.pending = s.orders.pending := by
    split
    · rfl
    · rw [(judgeCycle_only _).orders]; rfl
  unfold judgeCycleEnd endCycle
  dsimp only
  generalize (if endsVoid (formLimit s).params.c (formLimit s).count = true then formLimit s
      else judgeCycle (formLimit s)) = u at judged
  split
  · split
    · exact judged
    · exact (formMessage_pending _).trans judged
  · rfl

theorem endRun_pending (r : Run) (s : State) : (endRun r s).orders.pending = s.orders.pending := by
  rw [endRun_orders]
  split <;> rfl

theorem timed_judgeRunEnd (h : Timed k s) : Timed k (judgeRunEnd s) := by
  unfold judgeRunEnd
  split
  · exact h.ordered (endRun_only s _) (endRun_pending _ s)
  · exact h

/-! ### Orders -/

theorem timed_completeCommit (h : Timed k s) (j : CommitJob) (epoch : Count) (moved : Bool) :
    Timed k (completeCommit j epoch moved s) :=
  h.ordered (completeCommit_only s j epoch moved) (by rw [completeCommit_orders])

theorem timed_judgeCompletion (h : Timed k s) : Timed k (judgeCompletion s) := by
  unfold judgeCompletion
  split
  · split
    · split
      · exact timed_completeCommit h _ _ _
      · exact h
    · exact h
  · exact h

/-- A taken order is pending no more (R143). -/
theorem takeAtTruck_pending (o : Order) (s : State) : (takeAtTruck o s).orders.pending = none := by
  unfold takeAtTruck
  dsimp only
  rw [(linkTakes_only _).orders, raiseIf_orders, raise_orders]
  rfl

/-- An order whose epoch is reached is taken, so one that stays pending lies ahead. -/
theorem ahead_judgeTakeTruck (h : Timed 0 s) : Timed 1 (judgeTakeTruck s) := by
  unfold judgeTakeTruck
  split
  · next o _ =>
    exact timed_withdrawn (by rw [(takeAtTruck_only s o).params]; exact h.lead) (takeAtTruck_pending o s)
  · next hn =>
    refine ⟨h.mast, h.lead, fun o ho => ⟨?_, (h.epoch o ho).2⟩⟩
    have hr : s.role = .truck := by
      cases hr : s.role with
      | mast => rw [h.mast hr] at ho; cases ho
      | truck => rfl
    have hne : o.epoch ≠ s.count := by
      intro he
      simp [takeDueTruck, hr, ho, he] at hn
    bv_omega

theorem timed_judgeTakeTruck (h : Timed k s) : Timed k (judgeTakeTruck s) := by
  unfold judgeTakeTruck
  split
  · next o _ =>
    exact timed_withdrawn (by rw [(takeAtTruck_only s o).params]; exact h.lead) (takeAtTruck_pending o s)
  · exact h

/-- The mast end's part in orders leaves what is pending (R145, R147). -/
theorem takeAtMast_pending (x : HeardOrder) (s : State) : (takeAtMast x s).orders.pending = s.orders.pending := by
  unfold takeAtMast
  dsimp only
  rw [(linkTakes_only _).orders]
  change (applyStage x.source s).orders.pending = _
  rw [(applyStage_only s x.source).orders]

theorem timed_judgeTakeMast (h : Timed k s) : Timed k (judgeTakeMast s) := by
  unfold judgeTakeMast
  split
  · next x _ => exact h.ordered (takeAtMast_only s x) (takeAtMast_pending x s)
  · exact h

theorem judgePlannable_pending (o : OrderField) (s : State) :
    (judgePlannable o s).orders.pending = s.orders.pending := by
  unfold judgePlannable
  split <;> rfl

theorem rejudgeHeard_pending (s : State) : (rejudgeHeard s).orders.pending = s.orders.pending := by
  unfold rejudgeHeard
  split
  · split
    · exact judgePlannable_pending _ _
    · rfl
  · rfl

theorem hearNew_pending (o : OrderField) (s : State) : (hearNew o s).orders.pending = s.orders.pending := by
  have heard : (abandonRunOf s.orders.heard (judgePlannable o s)).orders.pending = s.orders.pending := by
    rw [(abandonRunOf_only _ _).orders]
    exact judgePlannable_pending o s
  unfold hearNew
  dsimp only
  split
  · split
    · exact (takeAtMast_pending _ _).trans heard
    · exact heard
  · exact heard

theorem hearOrders_pending (m : Steering) (s : State) : (hearOrders m s).orders.pending = s.orders.pending := by
  unfold hearOrders
  split
  · split
    · exact rejudgeHeard_pending s
    · split
      · exact rejudgeHeard_pending s
      · exact hearNew_pending _ s
  · dsimp only
    split <;> exact rejudgeHeard_pending s

/-- An accepted steering message is read at the mast end, where no order is pending (R105). -/
theorem timed_chooseSteering (h : Timed k s) (m : Steering) (n : Count) : Timed k (chooseSteering m n s) := by
  unfold chooseSteering
  split
  · next ha =>
    have hr := role_of_steeringAcceptable ha
    have hn := steeringNoted_only m s
    have hi := hearItem_only (steeringNoted m s) m
    have items : (hearItem m (steeringNoted m s)).orders.pending = none := by
      rw [hi.orders, hn.orders]
      exact h.mast hr
    have hlead : (steeringNoted m s).params.lead = s.params.lead ∨ (steeringNoted m s).params.lead = m.lead := by
      unfold steeringNoted takeTiming
      rw [(linkHears_only _).params]
      split
      · exact .inr rfl
      · exact .inl rfl
    have horders := hearOrders_only (hearItem m (steeringNoted m s)) m
    rw [hearSteering_eq]
    refine timed_withdrawn ?_ ((hearOrders_pending m _).trans items)
    change 24 ≤ (hearOrders m (hearItem m (steeringNoted m s))).params.lead ∧ _
    rw [horders.params, hi.params]
    rcases hlead with hl | hl <;> rw [hl]
    · exact h.lead
    · exact (timing_of_steeringAcceptable ha).2
  · exact h

/-- A reply that is read leaves the pending order (R110). -/
theorem readReply_pending (m : Reply) (s : State) : (readReply m s).orders.pending = s.orders.pending := by
  have decided : (decideSyncing m s).orders.pending = s.orders.pending := by
    unfold decideSyncing
    split_ifs <;> rfl
  unfold readReply judgeMismatch markResync
  dsimp only
  generalize decideSyncing m s = u at decided
  split_ifs
  · exact decided
  · rw [abandonCommit_orders]
    exact decided
  · exact decided
  · exact decided
  · exact decided

theorem timed_chooseReply (h : Timed k s) (m : Reply) : Timed k (chooseReply m s) := by
  unfold chooseReply
  split
  · rw [hearReply_eq]
    exact (h.only (replyNoted_only m s)).ordered (readReply_only _ m) (readReply_pending m _)
  · exact h

/-- A commit's order has the epoch that its TRIGGER allows, ahead by the lead at least (R156). -/
theorem commitEpoch_ahead {now g : Count} {lead : Nat} (hl : 24 ≤ lead ∧ lead ≤ 4096) :
    24 ≤ ((commitEpoch now lead g).1 - now).toNat ∧ ((commitEpoch now lead g).1 - now).toNat < 2 ^ 31 := by
  have usual : (now + BitVec.ofNat 32 lead - now).toNat = lead := by
    rw [add_sub_cancel_left, BitVec.toNat_ofNat]
    omega
  unfold commitEpoch
  dsimp only
  split_ifs with h1 h2
  · rw [usual]; omega
  · exact ⟨hl.1.trans h2.1, h2.2⟩
  · rw [usual]; omega

/-- The usual epoch is the one of a commit without TRIGGER (R141). -/
theorem usualEpoch_eq (s : State) : usualEpoch s = (commitEpoch s.count s.params.lead 0).1 := by
  unfold commitEpoch usualEpoch
  simp

/-- The order judgement leaves what is pending, or issues an order with its epoch ahead by the lead (R140, R141, R156). -/
theorem judgeIssue_pending (s : State) : judgeIssue s = s ∨
    s.role = .truck ∧ ∃ o g, (judgeIssue s).orders.pending = some o ∧ o.epoch = (commitEpoch s.count s.params.lead g).1 := by
  unfold judgeIssue
  split
  · next hd =>
    split
    · next m view _ _ =>
      have issued {t : State} {g : Count} (kind : OrderKind) (generation : Word16) (table : List Record)
          (ht : t.orders.pending = (issueOrder kind generation (commitEpoch s.count s.params.lead g).1 view table s).orders.pending) :
          t = s ∨ s.role = .truck ∧ ∃ o g, t.orders.pending = some o ∧ o.epoch = (commitEpoch s.count s.params.lead g).1 :=
        .inr ⟨hd.1, _, g, ht, rfl⟩
      have plain : (if plainNeeded view s then issuePlain view s else s) = s ∨ s.role = .truck ∧
          ∃ o g, (if plainNeeded view s then issuePlain view s else s).orders.pending = some o ∧
            o.epoch = (commitEpoch s.count s.params.lead g).1 := by
        split
        · refine issued (g := 0) .plain s.table.generation (recordsOf s.table.slots) ?_
          rw [← usualEpoch_eq]
          rfl
        · exact .inl rfl
      unfold issueByNeed
      split
      · next f _ =>
        split
        · refine issued (g := 0) .fullSync f.target (recordsOf s.table.slots) ?_
          rw [← usualEpoch_eq]
          rfl
        · exact .inl rfl
      · split
        · next j g _ =>
          split
          · exact issued (g := g) .commit (successor s.table.generation) (projected (recordsOf s.table.slots) s.changes) rfl
          · exact plain
        · exact plain
    · exact .inl rfl
  · exact .inl rfl

theorem timed_judgeIssue (hk : k ≤ 1) (h : Timed k s) : Timed k (judgeIssue s) := by
  have ho := judgeIssue_only s
  rcases judgeIssue_pending s with he | ⟨hr, o, g, hp, hepoch⟩
  · rwa [he]
  · refine ⟨fun hm => absurd (hr.symm.trans (ho.role ▸ hm)) (by decide), by rw [ho.params]; exact h.lead, fun o' ho' => ?_⟩
    rw [hp] at ho'
    cases ho'
    rw [ho.count, hepoch]
    obtain ⟨h24, hlt⟩ := commitEpoch_ahead (now := s.count) (g := g) h.lead
    exact ⟨by omega, hlt⟩

/-! ### The count -/

/-- A count is adopted at the mast end alone (R53). -/
theorem evaluateLane_count (hr : s.role = .truck) (l : Fin 4) (input : LaneInput) :
    (evaluateLane l input s).count = s.count := by
  have hnone (new : Lane) (j : Judgement) : adoptedCount s l new j = none := by
    unfold adoptedCount
    rw [if_neg fun hd => absurd hd.1 (by simp [adopting, hr])]
  unfold evaluateLane
  dsimp only
  split
  · rfl
  · simp [keepHandOver, hnone]

theorem timed_evaluateLane (h : Timed k s) (l : Fin 4) (input : LaneInput) : Timed k (evaluateLane l input s) := by
  have ho := evaluateLane_only s l input
  cases hr : s.role with
  | mast => exact timed_withdrawn (by rw [ho.params]; exact h.lead) (by rw [ho.orders]; exact h.mast hr)
  | truck => exact h.same ho.role (by rw [ho.params]) (evaluateLane_count hr l input) (by rw [ho.orders])

/-- With the count one further, an order that lay ahead is not passed. -/
theorem timed_advance (h : Timed 1 s) : Timed 0 (advance s) := by
  refine ⟨h.mast, h.lead, fun o ho => ?_⟩
  obtain ⟨hone, hlt⟩ := h.epoch o ho
  change _ ∧ (o.epoch - if s.counting then s.count + 1 else s.count).toNat < _
  refine ⟨Nat.zero_le _, ?_⟩
  split
  · bv_omega
  · exact hlt

end

/-- Every operation leaves a pending order's epoch as promised. -/
theorem timed_kept {k : Nat} (hk : k ≤ 1) : Kept (Timed k) where
  aside ha h := h.only ha.parts
  blank h := timed_blank h
  window h := timed_expireWindow h
  gap h := h.only (expireGap_only _)
  recallWait h := h.only (expireRecall_only _)
  runEnd h := timed_judgeRunEnd h
  cycleEnd h := h.ordered (judgeCycleEnd_only _) (judgeCycleEnd_pending _)
  holdover h := timed_judgeHoldover h
  takeTruck h := timed_judgeTakeTruck h
  takeMast h := timed_judgeTakeMast h
  completion h := timed_judgeCompletion h
  evaluate l input h := timed_evaluateLane h l input
  deliver h := h.only (deliverSuperframe_only _)
  steering m n h := timed_chooseSteering h m n
  reply m h := timed_chooseReply h m
  fullSync h := h.ordered (judgeFullSync_only _) (by unfold judgeFullSync; split <;> rfl)
  issue h := timed_judgeIssue hk h
  sending h := (h.only (takeForSending_only _)).only (settlePool_only _)
  cell port cell h := h.only (arriveCell_only _ port cell)
  clear n h := h.only (ps := [.slots]) (.of_eq rfl)
  configure body _ h := ⟨h.mast, written_bounds (by decide) h.lead _, h.epoch⟩
  stage e es _ _ _ h := h.only (ps := [.changes]) (.of_eq rfl)
  discard _ _ h := (h.only (ps := [.changes]) (.of_eq rfl)).ordered (abandonCommit_only _) (by rw [abandonCommit_orders])
  commit code _ h := h.ordered (ps := [.orders]) (.of_eq rfl) rfl
  trigger code epoch h := by
    unfold triggerCommit
    split
    · exact h.ordered (ps := [.orders]) (.of_eq rfl) rfl
    · exact h
  linkStart _ h := (timed_moveToCalling h).only (ps := [.counting]) (.of_eq rfl)
  linkStop _ h := timed_moveToStandby h
  softReset h := timed_withdrawn h.lead rfl

/-- A superframe boundary passes no pending order's epoch: what is due is taken first, and new orders lie ahead. -/
theorem timed_completeSuperframe {s : State} (inputs : PerLane LaneInput) (h : Timed 0 s) :
    Timed 0 (completeSuperframe inputs s) := by
  have before : Timed 0 (judgeHoldover (judgeCycleEnd (judgeRunEnd (expireRecall (expireGap (expireWindow (expireGuards s))))))) := by
    have kept := timed_kept (Nat.zero_le 1)
    exact kept.holdover (kept.cycleEnd (kept.runEnd (kept.recallWait (kept.gap (kept.window
      (kept.only h (expireGuards_only s)))))))
  have settled : Timed 1 (settle s) := by
    unfold settle
    exact timed_judgeCompletion (timed_judgeTakeMast (ahead_judgeTakeTruck before))
  unfold completeSuperframe
  exact timed_advance ((timed_kept le_rfl).worked inputs settled)

/-- Settles O59: the promises of role, schedule, waiting link and epoch, each kept operation by operation. -/
theorem linkAndEpochPromisesKept : Obligations.LinkAndEpochPromisesKept := by
  rintro s t ⟨hheld, hrole, hparams, hnothing, hschedule, hmisses, hepoch⟩ hstep
  have timed : Timed 0 s := by
    obtain ⟨-, hlead, -⟩ := hparams
    exact ⟨fun hm => (hrole.1 hm).2.1, hlead, fun o ho => ⟨Nat.zero_le _, hepoch o ho⟩⟩
  obtain ⟨hheld', hrole'⟩ := apart_kept.steps (fun inputs h => apart_kept.completed apart_advance inputs h) hheld
    ((apart_iff s).2 hrole) hstep
  obtain ⟨-, hscheduled'⟩ := scheduled_kept.steps (fun inputs h =>
    scheduled_kept.completed scheduled_advance inputs h) hheld ((scheduled_iff s).2 ⟨hparams, hschedule, hmisses⟩) hstep
  obtain ⟨-, hnothing'⟩ := holdsNothing_kept.steps (fun inputs h =>
    holdsNothing_kept.completed holdsNothing_advance inputs h) hheld ((holdsNothing_iff s).2 hnothing) hstep
  obtain ⟨-, htimed'⟩ := (timed_kept (Nat.zero_le 1)).steps timed_completeSuperframe hheld timed hstep
  obtain ⟨hparams', hschedule', hmisses'⟩ := (scheduled_iff t).1 hscheduled'
  exact ⟨hheld', (apart_iff t).1 hrole', hparams', (holdsNothing_iff t).1 hnothing', hschedule', hmisses',
    fun o ho => (htimed'.epoch o ho).2⟩

end Sys2Proof.LinkPromise
end

section
/-! The resets: what they put at its reset values, what a held part does, and how it leaves (R24, R25, R195 to R197). -/

-- One declaration after another: side by side, the proofs of the text need more memory than its check allows.
set_option Elab.async false

namespace Sys2Proof.Resets

open Sys2Proof Sys2Proof.Machine Sys2Proof.Claims Sys2Proof.Frame Sys2Proof.RolePromise Sys2Proof.LinkPromise

section
variable {s : State}

/-- A part held in hard reset takes no request. -/
theorem request_of_held (h : inReset s = true) {code : Byte} {n : Nat} {body : List Byte} {f : State → State} :
    request code n body s f = .next s := running_of_held h _

/-- A part held in hard reset takes no command but the board's. -/
theorem exec_of_held (h : inReset s = true) (c : Instr) (hpower : c ≠ .powerOnReset) (hpin : c ≠ .pinReset)
    (hsupply : c ≠ .supplyReset)
    (hend : ∀ (cause : HardCause) (strap : Role) (high : Bool), c ≠ .endOfHardReset cause strap high)
    (hgrade : ∀ l g : Fin 4, c ≠ .gradeChange l g) : exec c s = .next s := by
  cases c with
  | powerOnReset => exact absurd rfl hpower
  | pinReset => exact absurd rfl hpin
  | supplyReset => exact absurd rfl hsupply
  | endOfHardReset cause strap high => exact absurd rfl (hend cause strap high)
  | gradeChange l g => exact absurd rfl (hgrade l g)
  | trigger _ => unfold exec execTrigger; exact running_of_held h _
  | badCode _ => unfold exec execBadCode; exact running_of_held h _
  | readPlanCircuit _ => unfold exec execReadPlanCircuit; exact request_of_held h
  | readPlanLane _ => unfold exec execReadPlanLane; exact request_of_held h
  | readCountersCircuit _ => unfold exec execReadCountersCircuit; exact request_of_held h
  | readCountersEnd _ => unfold exec execReadCountersEnd; exact request_of_held h
  | readCountersLane _ => unfold exec execReadCountersLane; exact request_of_held h
  | readCountersProtection _ => unfold exec execReadCountersProtection; exact request_of_held h
  | releaseLane _ => unfold exec execReleaseLane; exact request_of_held h
  | softReset _ => unfold exec execSoftReset; exact request_of_held h
  | identify _ | status _ | events _ | eventMask _ | configure _ | laneSetup _ | protectionSetup _ | readCircuit _
  | stageAdd _ | stageModify _ | stageRetire _ | readChanges _ | discardChanges _ | commit _ | readLane _
  | linkStart _ | linkStop _ => exact request_of_held h
  | _ => exact running_of_held h _

/-- A part with a condition in hold is held. -/
theorem inReset_of_holds (h : s.resetting.powerOn = true ∨ s.resetting.pin = true ∨ s.resetting.supply = true) :
    inReset s = true := by
  unfold inReset
  rcases h with h | h | h <;> simp [h]

/-- Whether a condition ends is whether it holds (R195). -/
theorem without_eq_iff (r : Resetting) (cause : HardCause) : r.without cause = r ↔ r.holds cause = false := by
  obtain ⟨a, b, c⟩ := r
  cases cause <;> simp [Resetting.without, Resetting.holds]

theorem inReset_eq_false_iff (r : Resetting) : inReset { s with resetting := r } = false ↔ r = ⟨false, false, false⟩ := by
  obtain ⟨a, b, c⟩ := r
  simp [inReset, and_assoc]

/-- The end of a condition, by what it leaves of the conditions (R195). -/
theorem endCondition_cases (s : State) (cause : HardCause) (strap : Role) (high : Bool) :
    (s.resetting.without cause = s.resetting → endCondition cause strap high s = s) ∧
    (s.resetting.without cause ≠ s.resetting → s.resetting.without cause ≠ ⟨false, false, false⟩ →
      endCondition cause strap high s = { s with resetting := s.resetting.without cause }) ∧
    (s.resetting.without cause ≠ s.resetting → s.resetting.without cause = ⟨false, false, false⟩ →
      endCondition cause strap high s = leaveReset cause strap high { s with resetting := s.resetting.without cause }) := by
  unfold endCondition
  dsimp only
  refine ⟨fun he => ?_, fun hne hheld => ?_, fun hne hfree => ?_⟩
  · rw [if_pos ((without_eq_iff _ _).1 he)]
  · rw [if_neg (hne ∘ (without_eq_iff _ _).2), if_pos]
    exact Bool.eq_true_of_not_eq_false (hheld ∘ (inReset_eq_false_iff _).1)
  · rw [if_neg (hne ∘ (without_eq_iff _ _).2), if_neg]
    rw [(inReset_eq_false_iff _).2 hfree]
    decide

end

/-- Settles O54: a hard reset is built from the reset state, a held part takes the board's commands alone, and the end of
a condition goes by what it leaves. -/
theorem hardResetsAndTheirEnd : Obligations.HardResetsAndTheirEnd := by
  refine ⟨fun s c held hc => ?_, fun s c h h1 h2 h3 h4 h5 => exec_of_held h c h1 h2 h3 h4 h5, fun s cause strap high => ?_⟩
  · have hexec : exec c s = .next (hardReset held s) ∧ (held.powerOn = true ∨ held.pin = true ∨ held.supply = true) := by
      rcases hc with ⟨rfl, rfl⟩ | ⟨rfl, rfl⟩ | ⟨rfl, rfl⟩
      · exact ⟨rfl, .inl rfl⟩
      · exact ⟨rfl, .inr (.inl rfl)⟩
      · exact ⟨rfl, .inr (.inr rfl)⟩
    refine ⟨_, hexec.1, inReset_of_holds hexec.2, fun l =>
      ⟨(PerLane.get_map _ _ _).trans rfl, (PerLane.get_all _ _).trans rfl, PerLane.get_all _ _⟩,
      rfl, rfl, rfl, rfl, rfl, rfl, rfl⟩
  · have hexec : exec (.endOfHardReset cause strap high) s = .next (endCondition cause strap high s) := rfl
    obtain ⟨hkept, hheld, hfree⟩ := endCondition_cases s cause strap high
    rw [hexec]
    cases cause <;>
      exact ⟨fun h => congrArg _ (hkept h), fun h h' => congrArg _ (hheld h h'), fun h h' => congrArg _ (hfree h h')⟩

/-- Settles O55: the blocks that a SOFT reset keeps and clears, read off its definition. -/
theorem softResetKeepsConfiguration : Obligations.SoftResetKeepsConfiguration := by
  intro s hs
  have hexec : exec (.softReset []) s = .next (respond 0x3F .ok [] (softReset s)) := by
    unfold exec execSoftReset
    exact request_of_length hs rfl _
  exact ⟨_, hexec, rfl, fun l =>
    ⟨(PerLane.get_map _ _ _).trans rfl, (PerLane.get_all _ _).trans rfl, PerLane.get_all _ _⟩,
    rfl, rfl, rfl, rfl, rfl, rfl, rfl⟩

/-- Settles O60: the reset state is closed, so each promise of it is evaluated. -/
theorem resetMeetsEveryPromise : Obligations.ResetMeetsEveryPromise := by
  have running : inReset State.reset = false := rfl
  refine ⟨⟨by decide, by decide, by decide, by decide, by decide⟩,
    ⟨resetHeld_of_runs running, by decide, by decide, by decide, by decide, by decide, by decide⟩, ⟨by decide, by decide⟩, by decide, ?_, by decide, by decide, ?_⟩
  · exact (holdsNothing_iff _).1 fun _ => idle_blank (.refl _ _)
  · intro o ho
    cases ho

end Sys2Proof.Resets
end

section
/-! The host port: how the bytes of a transaction are judged, what requests answer for a wrong length, what reading requests
leave alone, and what a FETCH shifts out (R180 to R185, R200). -/

-- One declaration after another: side by side, the proofs of the text need more memory than its check allows.
set_option Elab.async false

namespace Sys2Proof.HostFrames

open Sys2Proof Sys2Proof.Machine Sys2Proof.Claims Sys2Proof.Frame

/-! ### Judging a transaction's bytes -/

theorem frameForPart_iff (pins : BitVec 2) (header : Byte) :
    frameForPart pins header = true ↔ header.getLsbD 7 = true ∨ header.extractLsb' 0 2 = pins := by
  unfold frameForPart
  simp

/-- Bytes whose header is for another part hold no frame (R180). -/
theorem decodeFrame_of_other {pins : BitVec 2} {header : Byte} (h : frameForPart pins header = false) (rest : List Byte) :
    decodeFrame pins (header :: rest) = none := by
  unfold decodeFrame
  simp [h]

/-- Bytes whose header is for this part are judged (R181). -/
theorem decodeFrame_of_own {pins : BitVec 2} {header : Byte} (h : frameForPart pins header = true) (rest : List Byte) :
    decodeFrame pins (header :: rest) =
      some ((judgeFrame pins (header :: rest)).getD (.badRequest ⟨pins, header :: rest⟩)) := by
  unfold decodeFrame
  simp [h]

/-- A frame is discarded in one of the five cases of R181, and else gives its request. -/
theorem judgeFrame_of_discardCase {pins : BitVec 2} {header code len : Byte} {rest : List Byte}
    (h : discardCase header code len rest) : judgeFrame pins (header :: code :: len :: rest) = none := by
  unfold judgeFrame
  dsimp only
  split_ifs with h1 h2 h3 h4 h5
  · rfl
  · rfl
  · rfl
  · rfl
  · rfl
  · rcases h with h | h | h | h | h
    · exact absurd h h1
    · exact absurd h h2
    · exact absurd h h3
    · exact absurd h h4
    · exact absurd h h5

theorem judgeFrame_of_not_discardCase {pins : BitVec 2} {header code len : Byte} {rest : List Byte}
    (h : ¬ discardCase header code len rest) : judgeFrame pins (header :: code :: len :: rest) =
      some (requestOf pins code (rest.take len.toNat) (rest.length - (len.toNat + 1))) := by
  unfold discardCase at h
  simp only [not_or] at h
  obtain ⟨h1, h2, h3, h4, h5⟩ := h
  unfold judgeFrame
  dsimp only
  rw [if_neg h1, if_neg h2, if_neg h3, if_neg h4, if_neg h5]

/-- A code that R200 does not list gives the row of an unknown code (R181). -/
theorem requestOf_of_unlisted {code : Byte} (h : code ∉ requestCodes) (pins : BitVec 2) (body : List Byte) (k : Nat) :
    requestOf pins code body k = .badCode code := by
  simp only [requestCodes, List.mem_cons, List.not_mem_nil, or_false, not_or] at h
  unfold requestOf
  simp only [h, if_false]

/-- Settles O3: the header decides whether the frame is this part's, and then the five cases of R181. -/
theorem framesJudgedInOrder : Obligations.FramesJudgedInOrder := by
  refine ⟨fun pins header code len rest => ⟨rfl, fun hg hc => ?_, fun hown => ?_⟩, fun pins bytes s hs => ⟨fun hd => ?_, fun hd => ?_⟩,
    fun pins code body k s hs hc => ⟨requestOf_of_unlisted hc pins body k, ?_⟩⟩
  · have hother : frameForPart pins header = false := by
      rw [Bool.eq_false_iff, Ne, frameForPart_iff, hg]
      simp [hc]
    exact ⟨decodeFrame_of_other hother _, decodeFrame_of_other hother _, decodeFrame_of_other hother _⟩
  · have hpart := (frameForPart_iff pins header).2 hown
    refine ⟨decodeFrame_of_own hpart [], decodeFrame_of_own hpart [code], fun hd => ?_, fun hd => ?_⟩
    · rw [decodeFrame_of_own hpart, judgeFrame_of_discardCase hd, Option.getD_none]
    · rw [decodeFrame_of_own hpart, judgeFrame_of_not_discardCase hd, Option.getD_some]
  · refine (running_of_runs hs _).trans ?_
    rw [discarded, hd]
    rfl
  · refine (running_of_runs hs _).trans ?_
    rw [discarded, hd]
    rfl
  · unfold exec execBadCode
    refine (running_of_runs hs _).trans ?_
    rw [if_neg (by simpa using hc)]

/-! ### Laying a request out and reading it back -/

/-- A request that a frame carries is read back from its code, body and clocked bytes, IDENTIFY with the reader's pins. -/
theorem requestOf_requestParts {i : Instr} {code : Byte} {body : List Byte} (hw : i.wellFormed = true)
    (hp : requestParts i = some (code, body)) (pins : BitVec 2) : requestOf pins code body (clockedAfter i) = readBy pins i := by
  cases i <;> cases hp
  case readPlanCircuit | readPlanLane | readCountersCircuit | readCountersEnd | readCountersLane | readCountersProtection =>
    simp only [Instr.wellFormed, bodyForm, Bool.and_eq_true, decide_eq_true_eq] at hw
    simp [requestOf, readBy, hw.2]
  all_goals rfl

/-- A well-formed request's body has at most 120 bytes, and a TRIGGER's has 5 (R200). -/
theorem requestParts_length {i : Instr} {code : Byte} {body : List Byte} (hw : i.wellFormed = true)
    (hp : requestParts i = some (code, body)) : body.length ≤ 120 ∧ (code = 0x17 → body.length = 5) := by
  cases i <;> cases hp <;>
    simp only [Instr.wellFormed, bodyForm, bodyLength, Bool.and_eq_true, decide_eq_true_eq] at hw
  case trigger => exact ⟨by omega, fun _ => hw⟩
  case fetch => exact ⟨hw, fun h => absurd h (by decide)⟩
  all_goals exact ⟨by omega, fun h => absurd h (by decide)⟩

/-- Only TRIGGER has its code. -/
theorem trigger_of_requestParts {i : Instr} {code : Byte} {body : List Byte} (hp : requestParts i = some (code, body))
    (hc : code = 0x17) : i = .trigger body := by
  cases i <;> cases hp
  case trigger => rfl
  all_goals exact absurd hc (by decide)

/-- The header byte of a frame (R200). -/
def headerByte (group : Bool) (chip : BitVec 2) : Byte := BitVec.ofNat 8 ((if group then 128 else 0) + chip.toNat)

/-- The header byte gives its group flag and its chip address back (R200). -/
theorem headerByte_read (group : Bool) (chip : BitVec 2) :
    (headerByte group chip).getLsbD 7 = group ∧ (headerByte group chip).extractLsb' 0 2 = chip := by
  revert group chip
  decide

theorem frameForPart_headerByte (group : Bool) (chip pins : BitVec 2) :
    frameForPart pins (headerByte group chip) = (group || decide (chip = pins)) := by
  obtain ⟨hflag, hchip⟩ := headerByte_read group chip
  rw [frameForPart, hflag, hchip]

/-- What a frame holds behind its body length: body, check, and the bytes clocked after it (R200). -/
def frameRest (header code : Byte) (body : List Byte) (k : Nat) : List Byte :=
  body ++ ([crc8 (header :: code :: BitVec.ofNat 8 body.length :: body)] ++ List.replicate k 0)

theorem encodeFrame_eq {i : Instr} {code : Byte} {body : List Byte} (hp : requestParts i = some (code, body))
    (group : Bool) (chip : BitVec 2) : encodeFrame group chip i = some (headerByte group chip :: code ::
      BitVec.ofNat 8 body.length :: frameRest (headerByte group chip) code body (clockedAfter i)) := by
  unfold encodeFrame frameRest
  rw [hp]
  simp [headerByte]

/-- A frame laid out by a well-formed request is discarded where it is grouped and no TRIGGER, and else is the request. -/
theorem judgeFrame_encoded {i : Instr} {code : Byte} {body : List Byte} (hw : i.wellFormed = true)
    (hp : requestParts i = some (code, body)) (group : Bool) (chip pins : BitVec 2) :
    judgeFrame pins (headerByte group chip :: code :: BitVec.ofNat 8 body.length ::
      frameRest (headerByte group chip) code body (clockedAfter i)) =
    if group = true ∧ code ≠ 0x17 then none else some (readBy pins i) := by
  obtain ⟨hlen, htrigger⟩ := requestParts_length hw hp
  have hnat : (BitVec.ofNat 8 body.length : Byte).toNat = body.length := by
    rw [BitVec.toNat_ofNat]
    omega
  have htake : (frameRest (headerByte group chip) code body (clockedAfter i)).take body.length = body := by
    simp [frameRest]
  have hbyte : byteAt (frameRest (headerByte group chip) code body (clockedAfter i)) body.length =
      crc8 (headerByte group chip :: code :: BitVec.ofNat 8 body.length :: body) := by
    simp [byteAt, frameRest]
  have hrest : (frameRest (headerByte group chip) code body (clockedAfter i)).length =
      body.length + 1 + clockedAfter i := by
    simp [frameRest]
    omega
  unfold judgeFrame
  dsimp only
  rw [hnat, htake, hbyte, hrest, if_neg (by omega), if_neg (by omega), if_neg (not_not.2 rfl),
    (headerByte_read group chip).1, Nat.add_sub_cancel_left, requestOf_requestParts hw hp]
  split
  · rfl
  · rw [if_neg fun h => h.2 (htrigger h.1)]

/-- Settles O4: the frame's parts are read back one by one, and the request from its code and body. -/
theorem requestFramesRoundTrip : Obligations.RequestFramesRoundTrip := by
  intro i group chip bytes hw he
  obtain hp | ⟨code, body, hp⟩ : requestParts i = none ∨ ∃ code body, requestParts i = some (code, body) := by
    cases requestParts i with
    | none => exact .inl rfl
    | some p => exact .inr ⟨p.1, p.2, rfl⟩
  · rw [encodeFrame, hp] at he
    cases he
  · rw [encodeFrame_eq hp] at he
    cases he
    refine ⟨fun hg => ⟨?_, fun other ho => ?_⟩, fun hg pins => ?_⟩
    · rw [decodeFrame_of_own (by simp [frameForPart_headerByte]), judgeFrame_encoded hw hp, if_neg (by simp [hg]),
        Option.getD_some]
    · exact decodeFrame_of_other (by simp [frameForPart_headerByte, hg, ho.symm]) _
    · rw [decodeFrame_of_own (by simp [frameForPart_headerByte, hg]), judgeFrame_encoded hw hp]
      by_cases hc : code = 0x17
      · rw [if_neg (by simp [hc]), trigger_of_requestParts hp hc]
        rfl
      · rw [if_pos ⟨hg, hc⟩, Option.getD_none]
        split
        · cases hp
          exact absurd rfl hc
        · rfl

/-! ### Requests whose body is too long or too short -/

/-- READ PLAN goes by its form byte (R200). -/
theorem requestOf_readPlan (pins : BitVec 2) (body : List Byte) (k : Nat) : requestOf pins 0x18 body k =
    if body.head? = some 1 then .readPlanLane body else .readPlanCircuit body := rfl

/-- READ COUNTERS goes by its form byte (R200). -/
theorem requestOf_readCounters (pins : BitVec 2) (body : List Byte) (k : Nat) : requestOf pins 0x21 body k =
    if body.head? = some 1 then .readCountersEnd body
    else if body.head? = some 2 then .readCountersLane body
    else if body.head? = some 3 then .readCountersProtection body
    else .readCountersCircuit body := rfl

/-- A request that takes a body of one length is answered BAD_FIELD for every other (R181, R200). -/
theorem exec_requestOf {code : Byte} {n : Nat} (h : (code, n) ∈ formLengths) (pins : BitVec 2) (body : List Byte) (k : Nat)
    (s : State) : ∃ f : State → State, exec (requestOf pins code body k) s = request code n body s f := by
  simp only [formLengths, List.mem_cons, List.not_mem_nil, or_false, Prod.mk.injEq] at h
  rcases h with ⟨rfl, rfl⟩ | ⟨rfl, rfl⟩ | ⟨rfl, rfl⟩ | ⟨rfl, rfl⟩ | ⟨rfl, rfl⟩ | ⟨rfl, rfl⟩ | ⟨rfl, rfl⟩ | ⟨rfl, rfl⟩ |
    ⟨rfl, rfl⟩ | ⟨rfl, rfl⟩ | ⟨rfl, rfl⟩ | ⟨rfl, rfl⟩ | ⟨rfl, rfl⟩ | ⟨rfl, rfl⟩ | ⟨rfl, rfl⟩ | ⟨rfl, rfl⟩ | ⟨rfl, rfl⟩ |
    ⟨rfl, rfl⟩ | ⟨rfl, rfl⟩ | ⟨rfl, rfl⟩ | ⟨rfl, rfl⟩
  case inr.inr.inr.inr.inr.inr.inr.inr.inr.inr.inr.inr.inr.inr.inl =>
    rw [requestOf_readPlan]
    split
    · change ∃ f, execReadPlanLane body s = _
      unfold execReadPlanLane
      exact ⟨_, rfl⟩
    · change ∃ f, execReadPlanCircuit body s = _
      unfold execReadPlanCircuit
      exact ⟨_, rfl⟩
  case inr.inr.inr.inr.inr.inr.inr.inr.inr.inr.inr.inr.inr.inr.inr.inr.inl =>
    rw [requestOf_readCounters]
    split_ifs
    · change ∃ f, execReadCountersEnd body s = _
      unfold execReadCountersEnd
      exact ⟨_, rfl⟩
    · change ∃ f, execReadCountersLane body s = _
      unfold execReadCountersLane
      exact ⟨_, rfl⟩
    · change ∃ f, execReadCountersProtection body s = _
      unfold execReadCountersProtection
      exact ⟨_, rfl⟩
    · change ∃ f, execReadCountersCircuit body s = _
      unfold execReadCountersCircuit
      exact ⟨_, rfl⟩
  case inr.inr.inr.inr.inr.inr.inr.inr.inr.inr.inr.inr.inr.inr.inr.inr.inr.inl =>
    change ∃ f, execReleaseLane body s = _
    unfold execReleaseLane
    exact ⟨_, rfl⟩
  case inr.inr.inr.inr.inr.inr.inr.inr.inr.inr.inr.inr.inr.inr.inr.inr.inr.inr.inr.inr =>
    change ∃ f, execSoftReset body s = _
    unfold execSoftReset
    exact ⟨_, rfl⟩
  all_goals exact ⟨_, rfl⟩

/-- Settles O5: every such request tests the length of its body first. -/
theorem wrongLengthsRefused : Obligations.WrongLengthsRefused := by
  intro code n hc pins body k s hs hlen
  obtain ⟨f, hf⟩ := exec_requestOf hc pins body k s
  rw [hf, request_of_other_length hs hlen]

/-! ### Requests that only read -/

/-- A request whose effect is an answer alone has an answer alone as its effect, whatever its body. -/
theorem request_responds {s : State} {code : Byte} {n : Nat} {body : List Byte} {f : State → State} (hs : Runs s)
    (hf : ∃ a items, f s = respond code a items s) : ∃ a items, request code n body s f = .next (respond code a items s) := by
  by_cases hlen : body.length = n
  · obtain ⟨a, items, hf⟩ := hf
    exact ⟨a, items, by rw [request_of_length hs hlen, hf]⟩
  · exact ⟨.badField, [], request_of_other_length hs hlen f⟩

/-- READ COUNTERS with a clear option of 0 forms an answer, in each of its forms (R178, R186). -/
theorem readCounters_responds (n : Nat) (s : State) :
    (∃ a items, readCircuitCounters n 0 s = respond 0x21 a items s) ∧
    (∃ a items, readEndCounters n 0 s = respond 0x21 a items s) ∧
    (∃ a items, readLaneCounters n 0 s = respond 0x21 a items s) ∧
    ∃ a items, readGuardCounters n 0 s = respond 0x21 a items s := by
  refine ⟨?_, ?_, ?_, ?_⟩
  · unfold readCircuitCounters
    split
    · next h => cases h; exact ⟨_, _, rfl⟩
    · exact ⟨_, _, rfl⟩
  · unfold readEndCounters
    split
    · next h => cases h; exact ⟨_, _, rfl⟩
    · exact ⟨_, _, rfl⟩
  · unfold readLaneCounters
    split
    · next h => cases h; exact ⟨_, _, rfl⟩
    · exact ⟨_, _, rfl⟩
  · unfold readGuardCounters
    split
    · next h => cases h; exact ⟨_, _, rfl⟩
    · exact ⟨_, _, rfl⟩

/-- An answer under a condition, and a refusal without it. -/
theorem responds_ite {s : State} {code : Byte} {c : Prop} [Decidable c] {t u : State}
    (ht : ∃ a items, t = respond code a items s) (hu : ∃ a items, u = respond code a items s) :
    ∃ a items, (if c then t else u) = respond code a items s := by
  split
  · exact ht
  · exact hu

/-- A reading request forms an answer and does nothing else. -/
theorem exec_reading {c : Instr} {code : Byte} {s : State} (hc : readingCode c = some code) (hs : Runs s) :
    ∃ a items, exec c s = .next (respond code a items s) := by
  cases c with
  | identify b => cases hc; exact request_responds hs ⟨_, _, rfl⟩
  | status b => cases hc; exact request_responds hs ⟨_, _, rfl⟩
  | readCircuit b =>
    cases hc
    refine request_responds hs ?_
    unfold readCircuit
    split <;> exact ⟨_, _, rfl⟩
  | readChanges b => cases hc; exact request_responds hs ⟨_, _, rfl⟩
  | readLane b =>
    cases hc
    refine request_responds hs ?_
    unfold readLane
    split <;> exact ⟨_, _, rfl⟩
  | readPlanCircuit b =>
    cases hc
    unfold exec execReadPlanCircuit
    refine request_responds hs (responds_ite ?_ ⟨_, _, rfl⟩)
    unfold readPlanCircuit
    split <;> exact ⟨_, _, rfl⟩
  | readPlanLane b =>
    cases hc
    unfold exec execReadPlanLane
    refine request_responds hs (responds_ite ?_ ⟨_, _, rfl⟩)
    unfold readPlanLane
    split <;> exact ⟨_, _, rfl⟩
  | readCountersCircuit b =>
    obtain ⟨hb, hc⟩ := Option.ite_none_right_eq_some.1 hc
    cases hc
    change ∃ a items, execReadCountersCircuit b s = _
    unfold execReadCountersCircuit
    rw [hb]
    exact request_responds hs (responds_ite (readCounters_responds _ s).1 ⟨_, _, rfl⟩)
  | readCountersEnd b =>
    obtain ⟨hb, hc⟩ := Option.ite_none_right_eq_some.1 hc
    cases hc
    change ∃ a items, execReadCountersEnd b s = _
    unfold execReadCountersEnd
    rw [hb]
    exact request_responds hs (responds_ite (readCounters_responds _ s).2.1 ⟨_, _, rfl⟩)
  | readCountersLane b =>
    obtain ⟨hb, hc⟩ := Option.ite_none_right_eq_some.1 hc
    cases hc
    change ∃ a items, execReadCountersLane b s = _
    unfold execReadCountersLane
    rw [hb]
    exact request_responds hs (responds_ite (readCounters_responds _ s).2.2.1 ⟨_, _, rfl⟩)
  | readCountersProtection b =>
    obtain ⟨hb, hc⟩ := Option.ite_none_right_eq_some.1 hc
    cases hc
    change ∃ a items, execReadCountersProtection b s = _
    unfold execReadCountersProtection
    rw [hb]
    exact request_responds hs (responds_ite (readCounters_responds _ s).2.2.2 ⟨_, _, rfl⟩)
  | _ => cases hc

/-- Settles O6: a reading request forms an answer alone. -/
theorem readingRequestsChangeOnlyTheAnswer : Obligations.ReadingRequestsChangeOnlyTheAnswer := by
  intro c code s hc hs
  obtain ⟨a, items, he⟩ := exec_reading hc hs
  exact ⟨_, he, rfl, rfl⟩

/-! ### FETCH -/

theorem statusNow_eq (s : State) :
    statusNow s = statusByte (attention s) s.host.held.isSome (commitInProgress s) := by
  have bits (a b c : Bool) : (if a then 0x80 else 0 : Byte) ||| (if b then 0x40 else 0) ||| (if c then 0x20 else 0) =
      statusByte a b c := by
    revert a b c
    decide
  rw [← bits]
  unfold statusNow attention commitInProgress
  cases s.host.held <;> cases s.orders.commit <;> simp

/-- The frame that the manual describes is the model's (R183, R184, R200). -/
theorem frameNow_eq (s : State) : frameNow s = fetchFrame s := by
  unfold frameNow fetchFrame
  rw [← statusNow_eq]
  cases s.host.held <;> rfl

/-- A frame is shifted out with zeros behind it (R183). -/
theorem shiftOut_eq (k : Nat) (s : State) : shiftOut k s = { s with host := { s.host with
    shifted := (frameNow s ++ List.replicate (k - (frameNow s).length) 0).take k
    held := if (frameNow s).length ≤ k then none else s.host.held } } := by
  rw [frameNow_eq]
  rfl

/-- Without a held answer the frame is a NONE of five bytes, without the answer-ready mark (R183, R184). -/
theorem frameNow_of_none {s : State} (h : s.host.held = none) :
    frameNow s = [statusNow s, 0x7E, 0x0E, 0x00, crc8 [statusNow s, 0x7E, 0x0E, 0x00]] ∧ (statusNow s).getLsbD 6 = false := by
  refine ⟨by unfold frameNow; rw [h], ?_⟩
  have ready (a c : Bool) : (statusByte a false c).getLsbD 6 = false := by
    revert a c
    decide
  rw [statusNow_eq, h]
  exact ready _ _

/-- Settles O11: the frame shifted out, and the answer that is held no more behind its check byte. -/
theorem fetchShiftsOut : Obligations.FetchShiftsOut := by
  intro s body k hs
  refine ⟨shiftOut k s, running_of_runs hs _, shiftOut_eq k s, fun hk => ?_⟩
  have hnone : (shiftOut k s).host.held = none := by
    rw [shiftOut_eq]
    exact if_pos hk
  obtain ⟨hframe, hready⟩ := frameNow_of_none hnone
  refine ⟨shiftOut 5 (shiftOut k s), running_of_runs (s := shiftOut k s) hs _, ?_, hready⟩
  rw [shiftOut_eq 5, hframe]
  rfl

end Sys2Proof.HostFrames
end

section
/-! What the reading requests answer, item by item, and what READ COUNTERS clears (R14, R15, R19, R47, R48, R73, R178, R186,
R193, R194, R200); and TRIGGER (R155). -/

-- One declaration after another: side by side, the proofs of the text need more memory than its check allows.
set_option Elab.async false

namespace Sys2Proof.Answers

open Sys2Proof Sys2Proof.Machine Sys2Proof.Claims Sys2Proof.Frame Sys2Proof.Guarding Sys2Proof.HostFrames

/-! ### Items that may be absent -/

/-- An item that may be absent, as the statements lay it out, is the model's (R200; assumption log 6). -/
theorem shown_eq {α : Type} (size : Nat) (item : Option α) (fields : α → List Field) :
    shown size item fields = optionalItem size (item.map fields) := by
  cases item <;> rfl

/-! ### IDENTIFY and STATUS -/

section
variable (s : State)

theorem linkShown_eq : linkShown s = statusLink s := by
  unfold linkShown statusLink
  rw [shown_eq, shown_eq]
  congr 1
  · congr 2
    cases hs : s.link.state with
    | calling => cases s.link.phase with
      | none => rfl
      | some p => cases p <;> rfl
    | _ => rfl
  · congr 1
    cases hs : s.link.state with
    | holdover => cases ho : s.link.origin with
      | none => simp [ho, originState, linkStateCode]
      | some o => cases o <;> simp [ho, originState, linkStateCode]
    | _ => rfl

theorem blankAndReadyShown_eq : blankAndReadyShown s =
    [markField (shownBlank s)] ++ optionalItem 4 ((shownReady s).map fun r => [stampField r]) := by
  unfold blankAndReadyShown shownBlank shownReady latestReply
  cases s.role with
  | mast => dsimp only; rw [shown_eq]; rfl
  | truck => cases s.chan.fromMast with
    | none => rfl
    | some p =>
      dsimp only
      rw [shown_eq]
      rfl

theorem ordersShown_eq (o : Orders) : ordersShown o = statusTruckOrders o := by
  have hresync : decide (o.resync ≠ none) = o.resync.isSome := by cases o.resync <;> rfl
  unfold ordersShown statusTruckOrders
  rw [shown_eq, shown_eq, shown_eq, hresync]
  rfl

theorem heardShown_eq (o : Orders) : heardShown o = statusMastOrders o := by
  unfold heardShown statusMastOrders
  rw [shown_eq]
  rfl

theorem requestedEpoch_eq (o : Orders) : requestedEpoch o = commitTrigger o := by
  unfold requestedEpoch commitTrigger
  cases o.commit with
  | none => rfl
  | some j =>
    obtain ⟨phase, -⟩ := j
    cases phase <;> rfl

theorem commitShown_eq (o : Orders) : commitShown o = statusCommit o := by
  unfold commitShown statusCommit commitStateCode
  rw [shown_eq, shown_eq, shown_eq, requestedEpoch_eq]
  cases o.commit with
  | none => rfl
  | some j =>
    obtain ⟨phase, -⟩ := j
    cases phase <;> rfl

theorem syncShown_eq : syncShown s = statusSync s := by
  have hheld : (s.chan.fromMast.map fun p => p.1.held).getD 0 = ((latestReply s).map (·.held)).getD 0 := by
    unfold latestReply
    cases s.chan.fromMast <;> rfl
  unfold syncShown statusSync
  rw [shown_eq, shown_eq, hheld]
  rfl

theorem channelShown_eq : channelShown s = statusChannel s := by
  have hcycle : s.count.toNat / s.params.c % 65536 = (cycleNumber s.params.c s.count).toNat := by
    unfold cycleNumber
    rw [BitVec.toNat_ofNat]
  unfold channelShown statusChannel
  rw [hcycle]
  congr 1
  cases s.role with
  | truck =>
    dsimp only
    rw [shown_eq]
    congr 2
    funext p
    rw [shown_eq, shown_eq]
    rfl
  | mast =>
    dsimp only
    rw [shown_eq]
    congr 2
    funext p
    rw [shown_eq]
    rfl

theorem protectionShown_eq : protectionShown s = statusProtection s := by
  unfold protectionShown statusProtection farSupply
  rw [shown_eq]
  cases s.role <;> rfl

theorem plansShown_eq (p : Planner) : plansShown p = statusPlanner p := by
  unfold plansShown statusPlanner
  rw [shown_eq, shown_eq, shown_eq]
  rfl

end

/-- Settles O7: the items of IDENTIFY as they stand, and those of STATUS group by group. -/
theorem identifyAndStatusAnswer : Obligations.IdentifyAndStatusAnswer := by
  intro s pins hs
  refine ⟨request_of_length hs rfl _, (request_of_length hs rfl _).trans ?_⟩
  congr 2
  rw [linkShown_eq, blankAndReadyShown_eq, ordersShown_eq, commitShown_eq, syncShown_eq, heardShown_eq, channelShown_eq,
    protectionShown_eq, plansShown_eq]
  unfold statusFields
  cases s.role <;> simp [stampField, List.append_assoc]

/-! ### READ CIRCUIT and READ CHANGES -/

theorem circuitOf_byte (n : Fin 64) : circuitOf (BitVec.ofNat 8 n.val).toNat = some n := by
  revert n
  decide

theorem circuitOf_of_ge {n : Nat} (h : 64 ≤ n) : circuitOf n = none := by
  unfold circuitOf
  rw [dif_neg (by omega)]

theorem exec_readCircuit {s : State} (hs : Runs s) (b : Byte) :
    exec (.readCircuit [b]) s = .next (readCircuit b.toNat s) := request_of_length hs rfl _

theorem exec_readChanges {s : State} (hs : Runs s) (b : Byte) :
    exec (.readChanges [b]) s = .next (readChanges b.toNat s) := request_of_length hs rfl _

theorem readCircuit_of_byte (s : State) (n : Fin 64) :
    readCircuit (BitVec.ofNat 8 n.val : Byte).toNat s = respond 0x10 .ok (circuitFields s n) s := by
  unfold readCircuit
  rw [circuitOf_byte]

/-- READ CHANGES of an edit that stands at its position, and of a position without one (R14, R19). -/
theorem changesAnswer_of_edit {s : State} {i : Nat} {e : Edit} (hi : i ≤ 15) (he : s.changes[i]? = some e) :
    changesAnswer s i = (.ok, [.num 1 (commitStateCode s.orders), .num 1 s.changes.length] ++ changeFields e) := by
  unfold changesAnswer
  rw [if_neg (by omega), he]

theorem changesAnswer_of_length {s : State} {i : Nat} (hi : i ≤ 15) (hl : s.changes.length ≤ i) :
    changesAnswer s i = (.noRecord, [.num 1 (commitStateCode s.orders), .num 1 s.changes.length]) := by
  unfold changesAnswer
  rw [if_neg (by omega), List.getElem?_eq_none hl]

theorem stageAnswer_of_edit {s : State} {i : Nat} {e : Edit} (hi : i ≤ 63) (he : s.stage.items[i]? = some e) :
    stageAnswer s i = (.ok, optionalItem 2 (s.stage.target.map fun t => [.num 2 t.toNat]) ++
      [.num 1 (modeCode s.stage.mode), .num 1 s.stage.total, .num 1 s.stage.items.length] ++ changeFields e) := by
  unfold stageAnswer
  rw [if_neg (by omega), he]

theorem stageAnswer_of_length {s : State} {i : Nat} (hi : i ≤ 63) (hl : s.stage.items.length ≤ i) :
    stageAnswer s i = (.noRecord, optionalItem 2 (s.stage.target.map fun t => [.num 2 t.toNat]) ++
      [.num 1 (modeCode s.stage.mode), .num 1 s.stage.total, .num 1 s.stage.items.length]) := by
  unfold stageAnswer
  rw [if_neg (by omega), List.getElem?_eq_none hl]

theorem readChanges_of_truck {s : State} (hr : s.role = .truck) (i : Nat) :
    readChanges i s = respond 0x14 (changesAnswer s i).1 (changesAnswer s i).2 s := by
  unfold readChanges
  rw [hr]

theorem readChanges_of_mast {s : State} (hr : s.role = .mast) (i : Nat) :
    readChanges i s = respond 0x14 (stageAnswer s i).1 (stageAnswer s i).2 s := by
  unfold readChanges
  rw [hr]

/-- The items of a LIVE slot in READ CIRCUIT, by its entry in the plan in force (R15). -/
theorem circuitFields_of_live {s : State} {n : Fin 64} {x : Slot} (hx : slotAt s.table.slots n = some x) :
    circuitFields s n = [.uncoded (.slotState true), .bytes (recordBytes x.record)] ++
      optionalItem 9 ((placementOf s x.record).map placementFields) ++ circuitTail s n := by
  unfold circuitFields
  rw [hx]
  rfl

/-- Settles O12: each answer by the tests of its request, one after another. -/
theorem circuitReadsAnswer : Obligations.CircuitReadsAnswer := by
  intro s b hs
  refine ⟨fun hb => ?_, fun n hn => ⟨fun hx => ?_, fun x hx => ⟨fun hp => ?_, fun p e hp he hnum => ?_⟩⟩, fun hr => ?_, fun hr => ?_⟩
  · rw [exec_readCircuit hs, readCircuit, circuitOf_of_ge hb]
  · rw [exec_readCircuit hs, hn, readCircuit_of_byte, circuitFields, hx]
    rfl
  · have hnone : placementOf s x.record = none := by
      unfold placementOf
      cases hplan : planInForce s with
      | none => rfl
      | some p => rw [Option.bind_some, (mem_of_slotAt hx).2, hp p hplan]
    rw [exec_readCircuit hs, hn, readCircuit_of_byte, circuitFields_of_live hx, hnone]
    rfl
  · have hsome : placementOf s x.record = some e := by
      unfold placementOf
      rw [hp, Option.bind_some, hnum, he]
    rw [exec_readCircuit hs, hn, readCircuit_of_byte, circuitFields_of_live hx, hsome]
    rfl
  · rw [exec_readChanges hs, readChanges_of_truck hr]
    refine ⟨fun hb => ?_, fun hb hl => ?_, fun e hb he => ?_⟩
    · rw [changesAnswer, if_pos hb]
    · rw [changesAnswer_of_length hb hl]
    · rw [changesAnswer_of_edit hb he]
      rfl
  · rw [exec_readChanges hs, readChanges_of_mast hr]
    refine ⟨fun hb => ?_, fun hb => ⟨_, rfl, fun hl => ?_, fun e he => ?_⟩⟩
    · rw [stageAnswer, if_pos hb]
    · rw [stageAnswer_of_length hb hl]
    · rw [stageAnswer_of_edit hb he, List.append_assoc _ _ (List.map _ _)]
      rfl

/-! ### TRIGGER -/

/-- A byte joined to a word stands in its eight lowest bits. -/
theorem toNat_append_byte {n : Nat} (x : BitVec n) (b : Byte) : (x ++ b).toNat = x.toNat * 256 + b.toNat := by
  rw [BitVec.toNat_append, ← Nat.shiftLeft_add_eq_or_of_lt b.isLt, Nat.shiftLeft_eq]

/-- The four bytes of a count, most significant first, spell it (0.4). -/
theorem numAt_four (b0 b1 b2 b3 : Byte) : BitVec.ofNat 32 (numAt [b0, b1, b2, b3] 0 4) = b0 ++ b1 ++ b2 ++ b3 := by
  have hnum : numAt [b0, b1, b2, b3] 0 4 = (b0 ++ b1 ++ b2 ++ b3).toNat := by
    rw [toNat_append_byte, toNat_append_byte, toNat_append_byte]
    simp [numAt, slice, natOfBytes]
  rw [hnum, BitVec.ofNat_toNat, BitVec.setWidth_eq]

theorem exec_trigger {s : State} (hs : Runs s) (code e3 e2 e1 e0 : Byte) : exec (.trigger [code, e3, e2, e1, e0]) s =
    .next (triggerCommit code.toNat (e3 ++ e2 ++ e1 ++ e0) s) := by
  unfold exec execTrigger
  refine (running_of_runs hs _).trans ?_
  rw [if_pos (by rfl), ← numAt_four]
  rfl

/-- A commit that is not ARMED and untriggered under the code is left as it is (R155). -/
theorem triggered_of_ne {code : Nat} {epoch : Count} {j : CommitJob}
    (h : j.phase ≠ .armed none ∨ j.code ≠ code ∨ code = 0) : triggered code epoch j = j := by
  unfold triggered
  rw [if_neg]
  rintro ⟨h1, h2, h3⟩
  rcases h with h | h | h
  · exact h h1
  · exact h h2
  · exact h3 h

/-- Settles O19: an ARMED, untriggered commit of the code is triggered, and nothing else is changed. -/
theorem triggerArmedCommit : Obligations.TriggerArmedCommit := by
  intro s code e3 e2 e1 e0 hs
  rw [exec_trigger hs]
  refine ⟨fun j hr hj hp hc h0 => ?_, fun hother => ?_, fun body hlen => ?_⟩
  · have hne : code.toNat ≠ 0 := fun h => h0 (BitVec.eq_of_toNat_eq h)
    rw [triggerCommit, if_pos hr, hj, Option.map_some, triggered, if_pos ⟨hp, hc, hne⟩]
  · unfold triggerCommit
    split
    · next hr =>
      have hkept : s.orders.commit.map (triggered code.toNat (e3 ++ e2 ++ e1 ++ e0)) = s.orders.commit := by
        cases hj : s.orders.commit with
        | none => rfl
        | some j =>
          rw [Option.map_some, triggered_of_ne]
          rcases hother with hm | h0 | h
          · exact absurd (hr.symm.trans hm) (by decide)
          · exact .inr (.inr (by rw [h0]; rfl))
          · exact (h j hj).imp_right .inl
      rw [hkept]
    · rfl
  · unfold exec execTrigger
    refine (running_of_runs hs _).trans ?_
    rw [if_neg hlen]

/-! ### READ PLAN -/

theorem exec_readPlanCircuit {s : State} (hs : Runs s) (sel num : Byte) :
    exec (.readPlanCircuit [0, sel, num]) s = .next (readPlanCircuit sel.toNat num.toNat s) := by
  unfold exec execReadPlanCircuit
  exact request_of_length hs rfl _

theorem exec_readPlanLane {s : State} (hs : Runs s) (sel num : Byte) :
    exec (.readPlanLane [1, sel, num]) s = .next (readPlanLane sel.toNat num.toNat s) := by
  unfold exec execReadPlanLane
  exact request_of_length hs rfl _

theorem selectorOf_of_ge {n : Nat} (h : 2 ≤ n) : selectorOf n = none := by
  match n, h with
  | _ + 2, _ => rfl

theorem directionOf_of_ge {n : Nat} (h : 2 ≤ n) : directionOf n = none := by
  match n, h with
  | _ + 2, _ => rfl

theorem directionOf_code (d : Direction) : directionOf (BitVec.ofNat 8 (directionCode d) : Byte).toNat = some d := by
  cases d <;> rfl

/-- What READ PLAN answers of a record selected that is none, and of one that stands, is the same in both its forms. -/
theorem readPlan_selected {s : State} (hs : Runs s) {sel : Byte} {next : Bool} (hsel : selectorOf sel.toNat = some next) :
    (∀ n : Fin 64, exec (.readPlanCircuit [0, sel, BitVec.ofNat 8 n.val]) s =
      .next (respond 0x18 (planCircuitAnswer s next n).1 (planCircuitAnswer s next n).2 s)) ∧
    ∀ d : Direction, exec (.readPlanLane [1, sel, BitVec.ofNat 8 (directionCode d)]) s =
      .next (respond 0x18 (planLaneAnswer s next d).1 (planLaneAnswer s next d).2 s) := by
  refine ⟨fun n => ?_, fun d => ?_⟩
  · rw [exec_readPlanCircuit hs, readPlanCircuit, hsel, circuitOf_byte]
  · rw [exec_readPlanLane hs, readPlanLane, hsel, directionOf_code]

/-- Where the record selected is none, READ PLAN answers so in either form (R47). -/
theorem readPlan_of_none {s : State} (hs : Runs s) {sel num : Byte} {next : Bool} {c : Instr}
    (hsel : selectorOf sel.toNat = some next) (hnone : selectedPlan s next = none)
    (hc : (c = .readPlanCircuit [0, sel, num] ∧ num.toNat < 64) ∨ (c = .readPlanLane [1, sel, num] ∧ num.toNat < 2)) :
    exec c s = .next (respond 0x18 (noPlanAnswer s next).1 (noPlanAnswer s next).2 s) := by
  obtain ⟨hcircuit, hlane⟩ := readPlan_selected hs hsel
  rcases hc with ⟨rfl, hn⟩ | ⟨rfl, hn⟩
  · have hnum : num = BitVec.ofNat 8 (⟨num.toNat, hn⟩ : Fin 64).val := by simp
    rw [hnum, hcircuit, planCircuitAnswer, hnone]
  · obtain ⟨d, hd⟩ : ∃ d, num = BitVec.ofNat 8 (directionCode d) := by
      have hcases : num = 0 ∨ num = 1 := by
        rcases (show num.toNat = 0 ∨ num.toNat = 1 by omega) with h | h
        · exact .inl (BitVec.eq_of_toNat_eq h)
        · exact .inr (BitVec.eq_of_toNat_eq h)
      rcases hcases with rfl | rfl
      · exact ⟨.down, rfl⟩
      · exact ⟨.up, rfl⟩
    rw [hd, hlane, planLaneAnswer, hnone]

theorem planLaneFields_eq (p : Plan) (d : Direction) (l : Fin 4) : planLaneFields p d l = laneShown p d l := rfl

/-- Settles O32: the form's fields are tested, then the record selected, then the circuit's entry. -/
theorem readPlanAnswers : Obligations.ReadPlanAnswers := by
  intro s sel num hs
  refine ⟨fun h => ?_, fun h => ?_, fun c hc => ⟨fun h0 hcur => ?_, fun h1 hnext hrun => ?_, fun r h1 hnext hrun => ?_⟩,
    fun p hp => ?_⟩
  · rw [exec_readPlanCircuit hs]
    unfold readPlanCircuit
    rcases h with h | h
    · rw [selectorOf_of_ge h]
    · rw [circuitOf_of_ge h]
      cases selectorOf sel.toNat <;> rfl
  · rw [exec_readPlanLane hs]
    unfold readPlanLane
    rcases h with h | h
    · rw [selectorOf_of_ge h]
    · rw [directionOf_of_ge h]
      cases selectorOf sel.toNat <;> rfl
  · exact readPlan_of_none hs (next := false) (by rw [h0]; rfl) hcur hc
  · rw [readPlan_of_none hs (next := true) (by rw [h1]; rfl) hnext hc]
    unfold noPlanAnswer
    rw [hrun]
  · rw [readPlan_of_none hs (next := true) (by rw [h1]; rfl) hnext hc]
    unfold noPlanAnswer
    rw [hrun]
    rfl
  · obtain ⟨next, hsel, hplan, hmark⟩ : ∃ next, selectorOf sel.toNat = some next ∧ selectedPlan s next = some p ∧
        (decide (sel = 0) && (planInForce s).isSome) = inForceMark s next := by
      rcases hp with ⟨h0, hp⟩ | ⟨h1, hp⟩
      · exact ⟨false, by rw [h0]; rfl, hp, by rw [h0]; rfl⟩
      · exact ⟨true, by rw [h1]; rfl, hp, by rw [h1]; rfl⟩
    obtain ⟨hcircuit, hlane⟩ := readPlan_selected hs hsel
    dsimp only
    rw [hmark]
    refine ⟨fun n hn => ⟨fun he => ?_, fun d e he => ?_⟩, fun d hd => ?_⟩
    · rw [hn, hcircuit, planCircuitAnswer, hplan]
      dsimp only
      rw [he]
      rfl
    · rw [hn, hcircuit, planCircuitAnswer, hplan]
      dsimp only
      rw [he]
      simp [entryFields, stampField, markField]
    · rw [hd, hlane, planLaneAnswer, hplan]
      simp [laneNumbers, planLaneFields_eq, stampField, markField, countServed, servedShown]

/-! ### READ LANE and READ COUNTERS -/

theorem isAligned_iff (x : LaneState) : isAligned x ↔ alignedState x = true := by
  cases x <;> simp [isAligned, alignedState]

theorem exec_readLane {s : State} (hs : Runs s) (b : Byte) : exec (.readLane [b]) s = .next (readLane b.toNat s) :=
  request_of_length hs rfl _

/-- Settles O37: the lane's number is tested, and its items are answered one after another. -/
theorem readLaneAnswers : Obligations.ReadLaneAnswers := by
  intro s b hs
  refine ⟨fun hb => ?_, fun l hl => ?_⟩
  · rw [exec_readLane hs, readLane, laneOf_of_ge hb]
  · have hlane : laneOf b.toNat = some l := by
      unfold laneOf
      rw [dif_pos (by omega)]
      exact congrArg some (Fin.ext hl)
    have haligned : decide (isAligned (s.lanes.get l).state) = alignedState (s.lanes.get l).state := by
      rw [Bool.eq_iff_iff, decide_eq_true_iff, isAligned_iff]
    have hmiss : (if isAligned (s.lanes.get l).state then some (s.lanes.get l).missRun else none) =
        if alignedState (s.lanes.get l).state then some (s.lanes.get l).missRun else none :=
      if_congr (isAligned_iff _) rfl rfl
    rw [exec_readLane hs, readLane, hlane]
    dsimp only
    rw [haligned, hmiss, shown_eq, shown_eq, shown_eq, shown_eq, shown_eq, shown_eq]
    have hcap : baseSlots (s.lanes.get l).kind / 2 ^ min (s.lanes.get l).gradeInput.val (maxGrade (s.lanes.get l).kind) =
        capacityOf (s.lanes.get l).kind (effectiveGrade (s.lanes.get l)) := by
      unfold capacityOf effectiveGrade
      rw [min_assoc, min_self]
    unfold laneFields farReport layoutSlots guardOf
    rw [hcap, Option.map_map, Option.map_map, apply_ite (Option.map _), apply_ite (Option.map _), apply_ite (Option.map _)]
    simp only [List.append_assoc]
    rfl

/-- A FREE slot holds no counters to clear (R178). -/
theorem clearCircuit_of_free {s : State} {n : Fin 64} (h : slotAt s.table.slots n = none) : clearCircuit n s = s := by
  have hkept : s.table.slots.map (fun x =>
      if x.record.number = n then { x with counters := CircuitCounters.zero } else x) = s.table.slots := by
    refine (List.map_congr_left fun x hx => ?_).trans (List.map_id _)
    exact if_neg (by simpa using List.find?_eq_none.1 h x hx)
  unfold clearCircuit
  rw [hkept]

/-- Settles O38: each form answers its counters, and clears them alone. -/
theorem countersReadAndCleared : Obligations.CountersReadAndCleared := by
  intro s b hs
  have circuit (k : Byte) : exec (.readCountersCircuit [0, b, k]) s = .next (readCircuitCounters b.toNat k.toNat s) := by
    unfold exec execReadCountersCircuit
    exact request_of_length hs rfl _
  have lane (k : Byte) : exec (.readCountersLane [2, b, k]) s = .next (readLaneCounters b.toNat k.toNat s) := by
    unfold exec execReadCountersLane
    exact request_of_length hs rfl _
  have atEnd (k : Byte) : exec (.readCountersEnd [1, 0, k]) s = .next (readEndCounters 0 k.toNat s) := by
    unfold exec execReadCountersEnd
    exact request_of_length hs rfl _
  have guards (k : Byte) : exec (.readCountersProtection [3, 0, k]) s = .next (readGuardCounters 0 k.toNat s) := by
    unfold exec execReadCountersProtection
    exact request_of_length hs rfl _
  refine ⟨fun n hn x hx => ⟨circuitCountersFields s n, ?_, ?_, ?_⟩, fun n hn hx => ?_, fun hb => ?_,
    ⟨endCountersFields s, rfl, atEnd 0, atEnd 1⟩, fun l hl => ⟨laneCounterFields (s.lanes.get l).counters, rfl, ?_, ?_⟩,
    fun hb => ?_, ⟨guardCountersFields s, rfl, guards 0, _, guards 1, rfl, fun i => ⟨?_, ?_⟩, rfl⟩⟩
  · unfold circuitCountersFields
    rw [hx]
    rfl
  · rw [circuit, hn, readCircuitCounters, circuitOf_byte]
    rfl
  · rw [circuit, hn, readCircuitCounters, circuitOf_byte]
    rfl
  · rw [circuit, hn, readCircuitCounters, circuitOf_byte]
    change Host.Outcome.next (respond 0x21 .ok (circuitCountersFields s n) (clearCircuit n s)) = _
    rw [clearCircuit_of_free hx]
    unfold circuitCountersFields
    rw [hx]
    rfl
  · rw [circuit, readCircuitCounters, circuitOf_of_ge hb]
  · rw [lane, hl, readLaneCounters, laneOf_byte]
    rfl
  · rw [lane, hl, readLaneCounters, laneOf_byte]
    rfl
  · rw [lane, readLaneCounters, laneOf_of_ge hb]
  · exact PerLane.get_map _ _ _
  · exact PerLane.get_map _ _ _

end Sys2Proof.Answers
end

section
/-! Records and rates (R2, R3, R201), and the tests of a staging request (R10). -/

-- One declaration after another: side by side, the proofs of the text need more memory than its check allows.
set_option Elab.async false

namespace Sys2Proof.Records

open Sys2Proof Sys2Proof.Machine Sys2Proof.Claims Sys2Proof.Frame Sys2Proof.CircuitTable Sys2Proof.Slots

/-! ### Coded fields -/

theorem circuitOf_eq_some_iff {n : Nat} {x : Fin 64} : circuitOf n = some x ↔ x.val = n := by
  unfold circuitOf
  split
  · rw [Option.some_inj, Fin.ext_iff]
    exact eq_comm
  · simp only [reduceCtorEq, false_iff]
    omega

theorem portOf_eq_some_iff {n : Nat} {x : Fin 32} : portOf n = some x ↔ x.val = n := by
  unfold portOf
  split
  · rw [Option.some_inj, Fin.ext_iff]
    exact eq_comm
  · simp only [reduceCtorEq, false_iff]
    omega

theorem priorityOf_eq_some_iff {n : Nat} {x : Fin 16} : priorityOf n = some x ↔ x.val = n := by
  unfold priorityOf
  split
  · rw [Option.some_inj, Fin.ext_iff]
    exact eq_comm
  · simp only [reduceCtorEq, false_iff]
    omega

theorem laneOf_eq_some_iff {n : Nat} {x : Fin 4} : laneOf n = some x ↔ x.val = n := by
  unfold laneOf
  split
  · rw [Option.some_inj, Fin.ext_iff]
    exact eq_comm
  · simp only [reduceCtorEq, false_iff]
    omega

theorem classOf_eq_some_iff {n : Nat} {c : Class} : classOf n = some c ↔ classCode c = n := by
  constructor
  · intro h
    unfold classOf at h
    split at h <;> cases h <;> rfl
  · rintro rfl
    exact classOf_classCode c

/-- Every element is read, in its place, or none is. -/
theorem allOf_eq_some_iff {α β : Type} {f : α → Option β} {as : List α} {bs : List β} :
    allOf f as = some bs ↔ List.Forall₂ (fun a b => f a = some b) as bs := by
  induction as generalizing bs with
  | nil =>
    unfold allOf
    constructor
    · intro h; cases h; exact .nil
    · intro h; cases h; rfl
  | cons a as ih =>
    unfold allOf
    constructor
    · intro h
      split at h
      · next b bs' hb hbs =>
        cases h
        exact .cons hb (ih.1 hbs)
      · cases h
    · intro h
      obtain ⟨b, bs', hb, hbs, rfl⟩ := List.forall₂_cons_left_iff.1 h
      rw [hb, ih.2 hbs]

/-- The lanes of a preference are the numbers that its bytes give. -/
theorem preference_eq_some_iff {bs : List Byte} {ls : List (Fin 4)} :
    allOf (fun b : Byte => laneOf b.toNat) bs = some ls ↔ ls.map (·.val) = bs.map (·.toNat) := by
  rw [allOf_eq_some_iff, ← List.forall₂_eq_eq_eq, List.forall₂_map_left_iff, List.forall₂_map_right_iff]
  constructor
  · intro h
    exact (h.imp fun b l hbl => laneOf_eq_some_iff.1 hbl).flip
  · intro h
    exact h.flip.imp fun b l hbl => laneOf_eq_some_iff.2 hbl

/-! ### Rates -/

/-- A rate is read within its range, rounded up to slots (R3). -/
theorem slotsOfRate_eq_some_iff {rate n : Nat} : slotsOfRate rate = some n ↔
    (1 ≤ rate ∧ rate ≤ 7864320) ∧ (rate + 3839) / 3840 = n := by
  unfold slotsOfRate
  split
  · next h => rw [Option.some_inj]; exact ⟨fun he => ⟨h, he⟩, fun he => he.2⟩
  · next h => simp only [reduceCtorEq, false_iff]; exact fun he => h he.1

theorem slotsOfRate_bounds {rate n : Nat} (h : slotsOfRate rate = some n) :
    3840 * (n - 1) < rate ∧ rate ≤ 3840 * n ∧ 1 ≤ n ∧ n ≤ 2048 := by
  obtain ⟨⟨hlo, hhi⟩, rfl⟩ := slotsOfRate_eq_some_iff.1 h
  omega

theorem slotsOfRate_eq_none_iff {rate : Nat} : slotsOfRate rate = none ↔ rate = 0 ∨ 7864320 < rate := by
  unfold slotsOfRate rateMax
  split
  · simp only [reduceCtorEq, false_iff]; omega
  · simp only [true_iff]; omega

/-- A demand that is read lies in its range (R2). -/
theorem demandOf_bounds {form : Bool} {value d : Nat} (h : demandOf form value = some d) : 1 ≤ d ∧ d ≤ 2048 := by
  cases form with
  | true => exact (slotsOfRate_bounds h).2.2
  | false =>
    obtain ⟨hv, he⟩ := Option.ite_none_right_eq_some.1 h
    cases he
    exact hv

/-- A floor that is read is at least 1 (R2). -/
theorem floorOf_pos {form : Bool} {value f : Nat} (h : floorOf form value = some (some f)) : 1 ≤ f := by
  cases form with
  | true =>
    obtain ⟨n, hn, he⟩ := Option.map_eq_some_iff.1 h
    cases he
    exact (slotsOfRate_bounds hn).2.2.1
  | false =>
    unfold floorOf at h
    simp only [Bool.false_eq_true, if_false] at h
    split at h
    · cases h
    · cases h; omega

theorem floorOf_slots {f : Nat} (h : 1 ≤ f) : floorOf false f = some (some f) := by
  have hne : f ≠ 0 := by omega
  simp [floorOf, hne]

/-! ### Records -/

/-- The bytes spell the record, field by field, and its fields lie in their ranges (R2, R3, R201). -/
structure Spells (bs : List Byte) (r : Record) : Prop where
  number : r.number.val = (byteAt bs 0).toNat
  direction : r.direction = if 128 ≤ (byteAt bs 1).toNat then .up else .down
  cls : classCode r.cls = (byteAt bs 1).toNat % 4
  mastPort : r.mastPort.val = (byteAt bs 2).toNat
  truckPort : r.truckPort.val = (byteAt bs 3).toNat
  priority : r.priority.val = (byteAt bs 4).toNat
  demand : demandOf (decide (8388608 ≤ numAt bs 5 3)) (numAt bs 5 3 % 8388608) = some r.demand
  floor : floorOf (decide (8388608 ≤ numAt bs 8 3)) (numAt bs 8 3 % 8388608) = some r.floor
  preference : r.preference.map (·.val) = (slice bs 12 (byteAt bs 11).toNat).map (·.toNat)
  count : (byteAt bs 11).toNat ≤ 4
  nodup : r.preference.Nodup
  fits : floorFits r.cls r.demand r.floor = true

theorem recordOf_eq_some_iff {bs : List Byte} {r : Record} : recordOf bs = some r ↔ Spells bs r := by
  unfold recordOf
  dsimp only
  constructor
  · intro h
    split at h
    · next number cls mast truck priority h1 h2 h3 h4 h5 =>
      split at h
      · next demand floor preference h6 h7 h8 =>
        split at h
        · next hfit =>
          obtain ⟨hcount, hnodup, hfits⟩ := hfit
          cases h
          exact ⟨circuitOf_eq_some_iff.1 h1, rfl, classOf_eq_some_iff.1 h2, portOf_eq_some_iff.1 h3,
            portOf_eq_some_iff.1 h4, priorityOf_eq_some_iff.1 h5, h6, h7, preference_eq_some_iff.1 h8, hcount, hnodup, hfits⟩
        · cases h
      · cases h
    · cases h
  · rintro ⟨h1, hd, h2, h3, h4, h5, h6, h7, h8, hcount, hnodup, hfits⟩
    rw [circuitOf_eq_some_iff.2 h1, classOf_eq_some_iff.2 h2, portOf_eq_some_iff.2 h3, portOf_eq_some_iff.2 h4,
      priorityOf_eq_some_iff.2 h5]
    dsimp only
    rw [show (2 : Nat) ^ 23 = 8388608 from rfl, h6, h7, preference_eq_some_iff.2 h8]
    dsimp only
    rw [if_pos ⟨hcount, hnodup, hfits⟩, ← hd]

theorem floorFits_iff {cls : Class} {demand : Nat} {floor : Option Nat} : floorFits cls demand floor = true ↔
    ∀ f : Nat, floor = some f → 1 ≤ f ∧ f < demand ∧ cls ≠ .extra := by
  cases floor with
  | none => simp [floorFits]
  | some f => simp [floorFits, and_assoc]

/-- The fields of a well-formed record (R1, R2). -/
theorem wellFormed_iff (r : Record) : r.wellFormed = true ↔
    (1 ≤ r.demand ∧ r.demand ≤ 2048) ∧ floorFits r.cls r.demand r.floor = true ∧ r.preference.Nodup := by
  unfold Record.wellFormed floorFits
  cases r.floor <;> simp [and_assoc]

theorem Spells.wellFormed {bs : List Byte} {r : Record} (h : Spells bs r) : r.wellFormed = true :=
  (wellFormed_iff r).2 ⟨demandOf_bounds h.demand, h.fits, h.nodup⟩

/-- The bytes of a record spell it (R201). -/
theorem spells_recordBytes {r : Record} (h : r.wellFormed = true) : Spells (recordBytes r) r := by
  obtain ⟨⟨hlo, hhi⟩, hfits, hnodup⟩ := (wellFormed_iff r).1 h
  have hlen : r.preference.length ≤ 4 := hnodup.length_le_card
  have hcode : directionCode r.direction * 128 + classCode r.cls < 256 := by cases r.direction <;> cases r.cls <;> decide
  have hsecond : (byteAt (recordBytes r) 1).toNat = directionCode r.direction * 128 + classCode r.cls := Nat.mod_eq_of_lt hcode
  have hcount : (byteAt (recordBytes r) 11).toNat = r.preference.length :=
    Nat.mod_eq_of_lt (hlen.trans_lt (by omega))
  have hdemand : numAt (recordBytes r) 5 3 = r.demand := by
    unfold recordBytes
    rw [List.append_assoc, List.append_assoc]
    exact numAt_append rfl (hhi.trans_lt (by omega))
  have hfloor : numAt (recordBytes r) 8 3 = r.floor.getD 0 := by
    unfold recordBytes
    rw [List.append_assoc]
    refine numAt_append rfl ?_
    cases hf : r.floor with
    | none => exact Nat.two_pow_pos 24
    | some f => exact ((floorFits_iff.1 hfits f hf).2.1.trans_le hhi).trans (by omega)
  have hlanes : slice (recordBytes r) 12 r.preference.length = r.preference.map fun l => BitVec.ofNat 8 l.val := by
    change (padTo 4 _).take _ = _
    unfold padTo
    rw [List.take_take, List.length_map, Nat.min_eq_left hlen, List.take_left' (List.length_map _)]
  refine ⟨(Nat.mod_eq_of_lt (by omega)).symm, ?_, ?_, (Nat.mod_eq_of_lt (by omega)).symm, (Nat.mod_eq_of_lt (by omega)).symm,
    (Nat.mod_eq_of_lt (by omega)).symm, ?_, ?_, ?_, hcount.le.trans hlen, hnodup, hfits⟩
  · rw [hsecond]
    cases r.direction <;> cases r.cls <;> rfl
  · rw [hsecond]
    cases r.direction <;> cases r.cls <;> rfl
  · rw [hdemand, decide_eq_false (by omega), Nat.mod_eq_of_lt (by omega)]
    exact (if_pos ⟨hlo, hhi⟩ : (if 1 ≤ r.demand ∧ r.demand ≤ 2048 then some r.demand else none) = _)
  · rw [hfloor]
    cases hf : r.floor with
    | none => rfl
    | some f =>
      obtain ⟨hpos, hlt, -⟩ := floorFits_iff.1 hfits f hf
      have hle : f ≤ 2048 := (hlt.trans_le hhi).le
      rw [Option.getD_some, decide_eq_false (by omega), Nat.mod_eq_of_lt (by omega)]
      exact floorOf_slots hpos
  · rw [hcount, hlanes, List.map_map]
    exact List.map_congr_left fun l _ => (Nat.mod_eq_of_lt (by omega)).symm

/-- A coded field is read exactly where its number is in range. -/
theorem exists_fin_val {n m : Nat} (h : m < n) : ∃ x : Fin n, x.val = m := ⟨⟨m, h⟩, rfl⟩

/-- Numbers below 4 are those of lanes. -/
theorem exists_lanes {ns : List Nat} (h : ∀ n ∈ ns, n < 4) : ∃ ls : List (Fin 4), ls.map (·.val) = ns := by
  induction ns with
  | nil => exact ⟨[], rfl⟩
  | cons n ns ih =>
    obtain ⟨ls, rfl⟩ := ih fun m hm => h m (List.mem_cons_of_mem _ hm)
    exact ⟨⟨n, h n List.mem_cons_self⟩ :: ls, rfl⟩

theorem classCode_injective {c d : Class} (h : classCode c = classCode d) : c = d :=
  Option.some_inj.1 ((classOf_classCode c).symm.trans (h ▸ classOf_classCode d))

theorem exists_class {n : Nat} (h : n < 3) : ∃ c : Class, classCode c = n := by
  match n, h with
  | 0, _ => exact ⟨.prot, rfl⟩
  | 1, _ => exact ⟨.standard, rfl⟩
  | 2, _ => exact ⟨.extra, rfl⟩

/-- Bytes spell no record exactly where one of their fields does not lie in its range (R2). -/
theorem recordOf_eq_none_iff {bs : List Byte} {demand : Option Nat} {floor : Option (Option Nat)}
    (hd : demandOf (decide (8388608 ≤ numAt bs 5 3)) (numAt bs 5 3 % 8388608) = demand)
    (hf : floorOf (decide (8388608 ≤ numAt bs 8 3)) (numAt bs 8 3 % 8388608) = floor) :
    recordOf bs = none ↔
      64 ≤ (byteAt bs 0).toNat ∨ (byteAt bs 1).toNat % 4 = 3 ∨ 32 ≤ (byteAt bs 2).toNat ∨ 32 ≤ (byteAt bs 3).toNat ∨
      16 ≤ (byteAt bs 4).toNat ∨ demand = none ∨ floor = none ∨
      (∃ d f : Nat, demand = some d ∧ floor = some (some f) ∧ (d ≤ f ∨ (byteAt bs 1).toNat % 4 = 2)) ∨
      4 < (byteAt bs 11).toNat ∨ (∃ n ∈ (slice bs 12 (byteAt bs 11).toNat).map (·.toNat), 4 ≤ n) ∨
      ¬ ((slice bs 12 (byteAt bs 11).toNat).map (·.toNat)).Nodup := by
  constructor
  · intro hnone
    by_contra hfine
    simp only [not_or, not_le, not_lt, not_exists, not_and, not_not] at hfine
    obtain ⟨hnum, hcls, hmast, htruck, hprio, hdem, hflo, hfit, hcount, hlanes, hnodup⟩ := hfine
    obtain ⟨number, hnumber⟩ := exists_fin_val hnum
    obtain ⟨mast, hmast⟩ := exists_fin_val hmast
    obtain ⟨truck, htruck⟩ := exists_fin_val htruck
    obtain ⟨priority, hprio⟩ := exists_fin_val hprio
    obtain ⟨cls, hclass⟩ := exists_class (n := (byteAt bs 1).toNat % 4) (by omega)
    obtain ⟨d, rfl⟩ := Option.ne_none_iff_exists'.1 hdem
    obtain ⟨f, rfl⟩ := Option.ne_none_iff_exists'.1 hflo
    obtain ⟨ls, hls⟩ := exists_lanes hlanes
    have hspells : Spells bs ⟨number, if 128 ≤ (byteAt bs 1).toNat then .up else .down, mast, truck, cls, priority, d, f, ls⟩ := by
      refine ⟨hnumber, rfl, hclass, hmast, htruck, hprio, hd, hf, hls, hcount, ?_, floorFits_iff.2 fun g hg => ?_⟩
      · exact List.Nodup.of_map _ (hls ▸ hnodup)
      · cases hg
        obtain ⟨hlt, hne⟩ := hfit d g rfl rfl
        exact ⟨floorOf_pos hf, hlt, fun hc => hne (hclass.symm.trans (congrArg classCode hc))⟩
    rw [recordOf_eq_some_iff.2 hspells] at hnone
    cases hnone
  · intro hbad
    refine Option.eq_none_iff_forall_ne_some.2 fun r hr => ?_
    have hs := recordOf_eq_some_iff.1 hr
    have hd' := hs.demand.symm.trans hd
    have hf' := hs.floor.symm.trans hf
    have h0 := hs.number
    have h1 : classCode r.cls < 3 := by cases r.cls <;> decide
    have h2 := hs.mastPort
    have h3 := hs.truckPort
    have h4 := hs.priority
    rcases hbad with h | h | h | h | h | h | h | ⟨d, f, rfl, rfl, h⟩ | h | ⟨n, hn, h⟩ | h
    · omega
    · have := hs.cls; omega
    · omega
    · omega
    · omega
    · rw [h] at hd'; cases hd'
    · rw [h] at hf'; cases hf'
    · cases hd'
      obtain ⟨-, hlt, hne⟩ := floorFits_iff.1 hs.fits f (Option.some_inj.1 hf')
      rcases h with h | h
      · omega
      · exact hne (classCode_injective (hs.cls.trans h))
    · have := hs.count; omega
    · rw [← hs.preference] at hn
      obtain ⟨l, -, rfl⟩ := List.mem_map.1 hn
      omega
    · exact h (hs.preference ▸ hs.nodup.map Fin.val_injective)

/-- Settles O17: the bytes that spell a record are those that are read. -/
theorem recordsAndRatesRead : Obligations.RecordsAndRatesRead := by
  refine ⟨fun r hr => ⟨recordOf_eq_some_iff.2 (spells_recordBytes hr), recordBytes_length r⟩,
    fun bs => ⟨recordOf_eq_none_iff rfl rfl, fun r hr => ?_⟩,
    fun rate => ⟨slotsOfRate_eq_none_iff, fun n => slotsOfRate_bounds⟩,
    fun value => ⟨rfl, rfl, rfl, by unfold floorOf; simp only [Bool.false_eq_true, if_false]; split <;> rfl⟩⟩
  have hs := recordOf_eq_some_iff.1 hr
  exact ⟨hs.wellFormed, hs.number, by rw [hs.direction]; split <;> simp [*], hs.cls, hs.mastPort, hs.truckPort, hs.priority,
    hs.demand.symm, hs.floor.symm, hs.preference⟩

/-! ### The tests of a staging request -/

section
variable {rs : List Record} {es : List Edit} {e : Edit}

/-- Test 5 asks for the request's number in the projected table (R9, R10). -/
theorem existenceRefusal_eq (hn : (es.map editNumber).Nodup) : existenceRefusal rs es e =
    if liveIn (projected rs es) (editNumber e) = !isAdd e then none
    else some (if isAdd e then .exists_ else .noRecord) := by
  rw [liveIn_eq, ← projectedLive_eq hn]
  cases e <;> cases h : projectedLive rs es _ <;> simp [existenceRefusal, isAdd, editNumber] <;> simp_all [editNumber]

/-- Tests 5 to 7 in their order (R10). -/
theorem stageEdit_eq (hn : (es.map editNumber).Nodup) : stageEdit rs es e =
    if liveIn (projected rs es) (editNumber e) = !isAdd e then
      if bindsTaken (projected rs (mergeEdit es e)) e then .error .portTaken
      else if heldEdit es (editNumber e) = none ∧ 16 ≤ es.length then .error .setFull
      else .ok (mergeEdit es e)
    else .error (if isAdd e then .exists_ else .noRecord) := by
  unfold stageEdit
  rw [existenceRefusal_eq hn, bindingTaken_eq_bindsTaken]
  by_cases h : liveIn (projected rs es) (editNumber e) = !isAdd e
  · simp only [h, if_true, Option.isNone_iff_eq_none]
    rfl
  · simp only [h, if_false]

end

theorem stage_of_mast (code : Byte) (edit : Option Edit) {s : State} (hr : s.role = .mast) :
    stage code edit s = respond code .notRole [] s := by unfold stage; rw [if_pos (by simp [hr])]

theorem stage_of_frozen (code : Byte) (edit : Option Edit) {s : State} (hr : s.role = .truck) (hc : s.orders.commit = none)
    (hf : eitherDeadBand s = true) : stage code edit s = respond code .frozen [] s := by
  unfold stage
  rw [if_neg (by simp [hr]), if_neg (by simp [hc]), if_pos (frozen_eq_eitherDeadBand s ▸ hf)]

section
variable (code : Byte) {e : Edit} {es : List Edit} {s : State} (hr : s.role = .truck) (hc : s.orders.commit = none)
  (hf : eitherDeadBand s = false)
include hr hc hf

theorem stage_of_badField : stage code none s = respond code .badField [] s := by
  unfold stage
  simp only [hr, hc, frozen_eq_eitherDeadBand, hf, ne_eq, not_true_eq_false, if_false, Option.isSome_none, Bool.false_eq_true]

theorem stage_of_error {refusal : AnswerCode} (h : stageEdit (recordsOf s.table.slots) s.changes e = .error refusal) :
    stage code (some e) s = respond code refusal [] s := by
  unfold stage
  simp only [hr, hc, frozen_eq_eitherDeadBand, hf, ne_eq, not_true_eq_false, if_false, Option.isSome_none, Bool.false_eq_true, h]

theorem stage_of_ok (h : stageEdit (recordsOf s.table.slots) s.changes e = .ok es) :
    stage code (some e) s = respond code .ok (stagedFields es (editNumber e)) { s with changes := es } := by
  unfold stage
  simp only [hr, hc, frozen_eq_eitherDeadBand, hf, ne_eq, not_true_eq_false, if_false, Option.isSome_none, Bool.false_eq_true, h]

end

/-- Settles O13: the tests of the staging requests in their order. -/
theorem stagingTestsInOrder : Obligations.StagingTestsInOrder := by
  intro c code edit s hreq hs hn
  have hexec := exec_stagingRequest hreq hs
  refine ⟨fun hr => ?_, fun hr hc => ?_, fun hr hc hf => ?_, fun hr hc hf => ⟨?_, ?_⟩⟩
  · rw [hexec, stage_of_mast code edit hr]
  · rw [hexec, CommitProcedure.stage_of_commit code edit hr hc]
  · rw [hexec, stage_of_frozen code edit hr hc hf]
  · rintro rfl
    rw [hexec, stage_of_badField code hr hc hf]
  · rintro e rfl
    dsimp only
    have htests := stageEdit_eq (rs := recordsOf s.table.slots) (e := e) hn
    refine ⟨fun ha hl => ?_, fun ha hl => ?_, fun hl => ⟨fun hb => ?_, fun hb hh hfull => ?_, fun hb hroom => ⟨_, rfl, ?_⟩⟩⟩
    · rw [if_neg (by simp [ha, hl]), if_pos ha] at htests
      rw [hexec, stage_of_error code hr hc hf htests]
    · rw [if_neg (by simp [ha, hl]), if_neg (by simp [ha])] at htests
      rw [hexec, stage_of_error code hr hc hf htests]
    · rw [if_pos hl, if_pos hb] at htests
      rw [hexec, stage_of_error code hr hc hf htests]
    · rw [if_pos hl, if_neg (by simp [hb]), if_pos ⟨hh, hfull⟩] at htests
      rw [hexec, stage_of_error code hr hc hf htests]
    · have hfits : ¬ (heldEdit s.changes (editNumber e) = none ∧ 16 ≤ s.changes.length) := by
        rintro ⟨hh, hfull⟩
        exact hroom.elim (fun h => h hh) (fun h => by omega)
      rw [if_pos hl, if_neg (by simp [hb]), if_neg hfits] at htests
      rw [hexec, stage_of_ok code hr hc hf htests]
      rfl

end Sys2Proof.Records
end

section
/-! Orders (chapter 7): what an issue, a planning run's end and the take of an order do, at either end. -/

-- One declaration after another: side by side, the proofs of the text need more memory than its check allows.
set_option Elab.async false

namespace Sys2Proof.Ordering

open Sys2Proof Sys2Proof.Machine Sys2Proof.Claims Sys2Proof.Frame Sys2Proof.Slots Sys2Proof.RolePromise

/-! ### Flags that an operation may set -/

section
variable {s t u : State} {fs gs : List Flag}

theorem raisesOnly_of_flags (h : t.host.flags = s.host.flags) : RaisesOnly fs s t := fun f => by
  rw [flagSet_congr h f]
  exact ⟨id, fun _ => rfl⟩

/-- Where each flag is read off afterwards by a formula, those that the formula may set are listed. -/
theorem raisesOnly_of_formula {b : Flag → Bool} (h : ∀ f, flagSet f t = (flagSet f s || b f)) (hb : ∀ f, b f = true → f ∈ fs) :
    RaisesOnly fs s t := fun f => by
  rw [h f]
  refine ⟨fun hf => by rw [hf, Bool.true_or], fun hf => ?_⟩
  rw [Bool.eq_false_iff.2 fun hbf => hf (hb f hbf), Bool.or_false]

theorem raisesOnly_trans (h : RaisesOnly fs s t) (h' : RaisesOnly fs t u) : RaisesOnly fs s u := fun f =>
  ⟨fun hf => (h' f).1 ((h f).1 hf), fun hf => ((h' f).2 hf).trans ((h f).2 hf)⟩

theorem raisesOnly_mono (h : RaisesOnly fs s t) (hsub : ∀ f ∈ fs, f ∈ gs := by decide) : RaisesOnly gs s t := fun f =>
  ⟨(h f).1, fun hf => (h f).2 fun hfs => hf (hsub f hfs)⟩

theorem raisesOnly_raise (f : Flag) (hf : f ∈ fs := by decide) : RaisesOnly fs s (raise f s) :=
  raisesOnly_of_formula (flagSet_raise f · s) fun g hg => by
    rw [decide_eq_true_eq] at hg
    exact hg ▸ hf

theorem raisesOnly_raiseIf (b : Bool) (f : Flag) (hf : f ∈ fs := by decide) : RaisesOnly fs s (raiseIf b f s) := by
  cases b with
  | true => exact raisesOnly_raise f hf
  | false => exact raisesOnly_of_flags rfl

end

/-! ### Flags of the shared operations -/

section
variable (s : State)

@[simp] theorem flagSet_linkTakes (f : Flag) : flagSet f (linkTakes s) =
    (flagSet f s || (decide (s.link.state = .syncing) && decide (f = .link))) := by
  unfold linkTakes
  split
  · next h => rw [setLink_flags]; simp [h]
  · next h => simp [h, flagSet]
  · next h _ => rw [decide_eq_false h, Bool.false_and, Bool.or_false]

@[simp] theorem linkTakes_link : (linkTakes s).link = linkTaking s.link := by
  unfold linkTakes linkTaking
  cases h : s.link.state with
  | syncing => exact setLink_link _ _
  | standby | calling | carrying => rfl
  | holdover => exact congrArg (fun k => { s.link with state := k, origin := some .carrying }) h

@[simp] theorem flagSet_putTable (slots : List Slot) (g : Word16) (b : Bool) (f : Flag) :
    flagSet f (putTable slots g b s) = (flagSet f s || (b && decide (f = .counterSat))) := by
  unfold putTable
  exact flagSet_raiseIf b .counterSat f _

@[simp] theorem flagSet_completeCommit (j : CommitJob) (epoch : Count) (moved : Bool) (f : Flag) :
    flagSet f (completeCommit j epoch moved s) = ((flagSet f s ||
      (editsSaturate s.role s.table.slots s.changes && decide (f = .counterSat))) || decide (f = .commitDone)) := by
  rw [← flagSet_putTable s (applyEdits s.role s.table.slots s.changes) (successor s.table.generation)]
  exact flagSet_raise .commitDone f _

end

/-! ### Issuing an order (R138 to R142, R156) -/

section
variable {s : State} {m : Reply} {view : View}

/-- An issued order is pending with its number taken, and its planning run has started (R139, R142). -/
theorem issueOrder_eq (kind : OrderKind) (g : Word16) (epoch : Count) (v : View) (table : List Record) (s : State) :
    issueOrder kind g epoch v table s = issued ⟨epoch, ⟨g, s.orders.nextNumber⟩, v, kind⟩ table s := by
  have hnext : (if s.planner.run.isSome then none else s.planner.next) = if s.planner.run = none then s.planner.next else none := by
    cases s.planner.run <;> rfl
  unfold issued
  rw [← hnext]
  rfl

theorem successor_eq_after (g : Word16) : successor g = after g := rfl

theorem stageReported_eq (m : Reply) (t : Transfer) (target : Word16) (mode : StageMode) (total : Nat) :
    stageReported m t target mode total = stageComplete m t target mode total := by
  simp [stageReported, reportsStage, stageComplete, Bool.and_assoc]

theorem requestInTime_iff (requested : Count) : requestInTime s requested = true ↔
    s.params.lead ≤ (requested - s.count).toNat ∧ (requested - s.count).toNat < 2147483648 := by
  simp [requestInTime]

/-- The epoch of a commit's order: the requested one where it is not 0 and in time (R156). -/
theorem commitEpoch_eq (s : State) (requested : Count) : commitEpoch s.count s.params.lead requested =
    (commitTime s requested, requested ≠ 0 && !requestInTime s requested) := by
  unfold commitEpoch commitTime
  by_cases h0 : requested = 0
  · simp [h0]
  · have hlit : (2 : Nat) ^ 31 = 2147483648 := rfl
    dsimp only
    rw [if_neg h0, hlit]
    simp only [← requestInTime_iff]
    have hne : decide (requested ≠ 0) = true := decide_eq_true h0
    rw [hne]
    cases requestInTime s requested <;> rfl

theorem plainNeeded_eq (view : View) (s : State) : plainNeeded view s = plainWanted s view := by
  unfold plainNeeded plainWanted
  cases s.link.state <;> simp

theorem judgeIssue_of_mayIssue (h : MayIssue s m view) : judgeIssue s = issueByNeed m view s := by
  obtain ⟨hrole, hlink, hpending, hreply, hview⟩ := h
  unfold judgeIssue latestReply
  rw [if_pos ⟨hrole, hlink, hpending⟩, hreply, hview]

/-- No order is issued but at the truck end, in SYNCING or CARRYING, with a reply held and none pending (R140). -/
theorem judgeIssue_of_not (h : s.role = .mast ∨ s.orders.pending ≠ none ∨ s.chan.fromMast = none ∨
    (s.link.state ≠ .syncing ∧ s.link.state ≠ .carrying)) : judgeIssue s = s := by
  unfold judgeIssue
  split
  · next hc =>
    obtain ⟨hrole, hlink, hpending⟩ := hc
    rcases h with h | h | h | ⟨h, h'⟩
    · rw [hrole] at h; cases h
    · exact absurd hpending h
    · unfold latestReply; rw [h]; rfl
    · exact absurd hlink (not_or.2 ⟨h, h'⟩)
  · rfl

theorem issuePlain_eq (view : View) (s : State) : issuePlain view s =
    issued ⟨s.count + BitVec.ofNat 32 s.params.lead, ⟨s.table.generation, s.orders.nextNumber⟩, view, .plain⟩
      (recordsOf s.table.slots) s := issueOrder_eq _ _ _ _ _ _

/-- A running full sync waits for its stage and issues no other order (R140, R159). -/
theorem issueByNeed_of_fullSync {f : FullSync} (h : s.orders.fullSync = some f) : issueByNeed m view s =
    if stageComplete m f.transfer f.target .full f.items.length = true ∧ eitherDeadBand s = false then
      issued ⟨s.count + BitVec.ofNat 32 s.params.lead, ⟨f.target, s.orders.nextNumber⟩, view, .fullSync⟩
        (recordsOf s.table.slots) s
    else s := by
  unfold issueByNeed
  rw [h]
  dsimp only
  rw [stageReported_eq, CircuitTable.frozen_eq_eitherDeadBand]
  simp only [Bool.and_eq_true, Bool.not_eq_true']
  congr 1
  exact issueOrder_eq _ _ _ _ _ _

/-- With no full sync and no commit whose order may be issued, a plain order is issued where it is needed (R140). -/
theorem issueByNeed_of_plain (h : s.orders.fullSync = none) (hc : commitMayOrder s m = false) :
    issueByNeed m view s = if plainWanted s view then
      issued ⟨s.count + BitVec.ofNat 32 s.params.lead, ⟨s.table.generation, s.orders.nextNumber⟩, view, .plain⟩
        (recordsOf s.table.slots) s
    else s := by
  unfold issueByNeed
  rw [h]
  dsimp only
  rw [plainNeeded_eq, issuePlain_eq]
  split
  · next j g hj =>
    obtain ⟨j', hj', hg⟩ := Option.bind_eq_some_iff.1 hj
    obtain ⟨g', hg', he⟩ := Option.map_eq_some_iff.1 hg
    cases he
    unfold commitMayOrder at hc
    rw [hj'] at hc
    dsimp only at hc
    have hw : wantsOrder j = some g := hg'
    rw [hw, Option.isSome_some, Bool.true_and, ← stageReported_eq, ← CircuitTable.frozen_eq_eitherDeadBand] at hc
    rw [if_neg (by unfold commitAllowed; rw [hc]; decide)]
  · rfl

/-- A commit whose order may be issued is ordered at the epoch that its trigger allows (R140, R156). -/
theorem issueByNeed_of_commit {j : CommitJob} {requested : Count} (h : s.orders.fullSync = none)
    (hj : s.orders.commit = some j) (hw : wantsOrder j = some requested) (hc : commitMayOrder s m = true) :
    issueByNeed m view s = issueCommit j requested view s := by
  unfold issueByNeed
  have hready : (some j).bind (fun j => (commitReady j).map fun g => (j, g)) = some (j, requested) := by
    have hg : commitReady j = some requested := hw
    rw [Option.bind_some, hg, Option.map_some]
  rw [h, hj, hready]
  dsimp only
  unfold commitMayOrder at hc
  rw [hj] at hc
  dsimp only at hc
  rw [hw, Option.isSome_some, Bool.true_and, ← stageReported_eq, ← CircuitTable.frozen_eq_eitherDeadBand] at hc
  exact if_pos hc

end

/-- Settles O20: the judgement of R140 comes to a plain order where no full sync runs and no commit's order may be issued. -/
theorem plainOrderIssued : Obligations.PlainOrderIssued := by
  refine fun s hs => ⟨fun m view hmay hfull hcommit => ?_, fun hno => ?_⟩
  · calc exec .orderIssue s = .next (judgeIssue s) := running_of_runs hs _
      _ = _ := by rw [judgeIssue_of_mayIssue hmay, issueByNeed_of_plain hfull hcommit]
  · calc exec .orderIssue s = .next (judgeIssue s) := running_of_runs hs _
      _ = .next s := by rw [judgeIssue_of_not hno]

/-- Settles O21: the judgement of R140 comes to a running full sync's order, or to the commit's. -/
theorem commitAndFullSyncOrdersIssued : Obligations.CommitAndFullSyncOrdersIssued := by
  intro s m view hs hmay
  have hexec : exec .orderIssue s = .next (issueByNeed m view s) := by
    rw [← judgeIssue_of_mayIssue hmay]
    exact running_of_runs hs _
  refine ⟨fun f hf => by rw [hexec, issueByNeed_of_fullSync hf], fun j requested hfull hj hw hc => ⟨_, rfl, ?_⟩⟩
  rw [hexec, issueByNeed_of_commit hfull hj hw hc]
  unfold issueCommit
  rw [commitEpoch_eq, successor_eq_after]
  dsimp only
  rw [issueOrder_eq]

/-! ### Full sync and completion (R131, R157, R159) -/

theorem commitOrdered_eq (s : State) : commitOrdered s = ordered s := rfl

theorem fullSyncDue_iff (s : State) : fullSyncDue s = true ↔ s.role = .truck ∧ s.orders.resync = some .fullSync ∧
    s.orders.pending = none ∧ s.orders.fullSync = none ∧ ordered s = false := by
  simp [fullSyncDue, commitOrdered_eq, and_assoc]

/-- Settles O24: a resync full sync starts exactly where it is due. -/
theorem resyncFullSyncStarts : Obligations.ResyncFullSyncStarts := by
  intro s hs
  have hexec : exec .fullSync s = .next (judgeFullSync s) := running_of_runs hs _
  refine ⟨fun hrole hresync hpending hfull hordered => ⟨?_, fun ht => ?_⟩, fun hno => ?_⟩
  · rw [hexec]
    unfold judgeFullSync
    rw [if_pos ((fullSyncDue_iff s).2 ⟨hrole, hresync, hpending, hfull, hordered⟩)]
    unfold startFullSync
    rw [if_pos hresync]
    rfl
  · rw [List.map_map]
    exact ht
  · rw [hexec]
    unfold judgeFullSync
    rw [if_neg]
    intro hdue
    obtain ⟨hrole, hresync, hpending, hfull, hordered⟩ := (fullSyncDue_iff s).1 hdue
    rcases hno with h | h | h | h | h
    · rw [hrole] at h; cases h
    · exact h hresync
    · exact h hpending
    · exact h hfull
    · rw [hordered] at h; cases h

/-- What a completed commit leaves (R20, R157). -/
theorem completeCommit_table (j : CommitJob) (epoch : Count) (moved : Bool) (s : State) :
    (completeCommit j epoch moved s).table = ⟨applyEdits s.role s.table.slots s.changes, after s.table.generation⟩ :=
  putTable_table _ _ _ _

theorem completeCommit_changes (j : CommitJob) (epoch : Count) (moved : Bool) (s : State) :
    (completeCommit j epoch moved s).changes = [] := rfl

theorem raisesOnly_completeCommit (j : CommitJob) (epoch : Count) (moved : Bool) (s : State) :
    RaisesOnly [.commitDone, .counterSat] s (completeCommit j epoch moved s) :=
  raisesOnly_trans (raisesOnly_of_formula (flagSet_putTable s _ _ _) fun f hf => by simp_all)
    (raisesOnly_raise (s := applyChangeSet s) .commitDone)

/-- Settles O27: an ORDERED commit without a pending order completes at its epoch. -/
theorem orderedCommitCompletes : Obligations.OrderedCommitCompletes := by
  intro s j epoch moved hs hrole hj hphase
  have hexec : exec .orderedCommitCompletion s = .next (judgeCompletion s) := running_of_runs hs _
  refine ⟨fun hpending hepoch => ⟨completeCommit j epoch moved s, ?_, ?_, ?_, raisesOnly_completeCommit _ _ _ _, ?_⟩, fun hno => ?_⟩
  · rw [hexec]
    unfold judgeCompletion
    rw [hj, hpending]
    dsimp only
    rw [hphase]
    dsimp only
    rw [if_pos ⟨hepoch, hrole⟩]
  · rw [completeCommit_table, hrole]
  · rw [flagSet_completeCommit]; simp
  · have horders := completeCommit_orders j epoch moved s
    rw [successor_eq_after] at horders
    calc completeCommit j epoch moved s = _ := (completeCommit_only s j epoch moved).eq_merge
      _ = _ := by rw [← horders]; rfl
  · rw [hexec]
    unfold judgeCompletion
    rw [hj]
    cases hp : s.orders.pending with
    | none =>
      dsimp only
      rw [hphase]
      dsimp only
      rw [if_neg fun h => (hno.resolve_left fun hne => hne hp) h.1]
    | some o => rfl

/-! ### The agreed view (R137) -/

theorem usableState_iff (x : LaneState) : usableState x = true ↔ x = .inService ∨ x = .suspect := by
  cases x <;> simp [usableState]

theorem viewGrade_of_le {reported : Byte} (h : reported.toNat ≤ 3) : (viewGrade reported).val = reported.toNat := by
  unfold viewGrade laneOf
  rw [dif_pos (by omega)]
  rfl

/-- The grade of this end's own report is that of its lane port (R49, R70). -/
theorem viewGrade_own (lane : Lane) : (viewGrade (BitVec.ofNat 8 (effectiveGrade lane))).val =
    min lane.gradeInput.val (maxGrade lane.kind) := by
  have hle : effectiveGrade lane ≤ 3 := by
    have hmax : maxGrade lane.kind ≤ 3 := by cases lane.kind <;> decide
    exact (Nat.min_le_right _ _).trans hmax
  have hbyte : (BitVec.ofNat 8 (effectiveGrade lane)).toNat = effectiveGrade lane := Nat.mod_eq_of_lt (by omega)
  rw [viewGrade_of_le (by omega), hbyte]
  rfl

section
variable (state : LaneState) (grade : Byte) (causes : Causes) (same : Bool)

theorem agreedDir_usable : (agreedDir state grade causes same).usable = true ↔
    (state = .inService ∨ state = .suspect) ∧ causes = Causes.none ∧ same = true := by
  unfold agreedDir
  rw [← usableState_iff, Guarding.noCauses_eq]
  by_cases h : (usableState state && decide (causes = Causes.none) && same) = true
  · rw [if_pos h]
    simpa [and_assoc] using h
  · rw [if_neg h]
    simpa [and_assoc] using h

theorem agreedDir_of_usable (h : (agreedDir state grade causes same).usable = true) :
    ((agreedDir state grade causes same).suspect = true ↔ state = .suspect) ∧
    (agreedDir state grade causes same).grade = viewGrade grade := by
  unfold agreedDir at *
  split at h
  · next hc => rw [if_pos hc]; simp
  · cases h

theorem agreedDir_of_not_usable (h : (agreedDir state grade causes same).usable = false) :
    (agreedDir state grade causes same).suspect = false ∧ (agreedDir state grade causes same).grade = 0 := by
  unfold agreedDir at *
  split at h
  · cases h
  · next hc => rw [if_neg hc]; exact ⟨rfl, rfl⟩

end

/-- Settles O22: each direction of a lane is joined from its receiver's report and its sender's causes. -/
theorem agreedViewJoinsBothEnds : Obligations.AgreedViewJoinsBothEnds := by
  intro s
  refine ⟨fun h => ?_, fun m arrival h => ⟨PerLane.ofFn (agreedLane s m), ?_, fun l => ?_⟩⟩
  · unfold agreedView; rw [h]
  · unfold agreedView; rw [h]
  · rw [PerLane.get_ofFn]
    dsimp only
    refine ⟨rfl, ?_, fun hu => ?_, agreedDir_of_not_usable _ _ _ _, ?_, fun hu => ?_, agreedDir_of_not_usable _ _ _ _⟩
    · exact (agreedDir_usable _ _ _ _).trans (by rw [decide_eq_true_eq]; rfl)
    · obtain ⟨hsuspect, hgrade⟩ := agreedDir_of_usable _ _ _ _ hu
      exact ⟨hsuspect, (congrArg Fin.val hgrade).trans (viewGrade_own _)⟩
    · exact (agreedDir_usable _ _ _ _).trans (by rw [decide_eq_true_eq]; rfl)
    · obtain ⟨hsuspect, hgrade⟩ := agreedDir_of_usable _ _ _ _ hu
      exact ⟨hsuspect, fun hle => (congrArg Fin.val hgrade).trans (viewGrade_of_le hle)⟩

/-! ### The end of a planning run (R42, R172) -/

/-- The entry of a circuit in a plan, its direction apart, is the first of its number among all entries. -/
theorem entry_eq_find (p : Plan) (n : Fin 64) :
    (p.entry n).map (·.2) = (p.down.entries ++ p.up.entries).find? fun e => decide (e.number = n) := by
  rw [List.find?_append]
  unfold Plan.entry DirPlan.entry
  cases hdown : p.down.entries.find? fun e => decide (e.number = n) with
  | some e => rfl
  | none =>
    dsimp only
    rw [Option.map_map, Option.none_or]
    exact Option.map_id'

/-- A circuit's queue limit is twice its slots in the plan that gives the limits (R164). -/
theorem queueLimit_eq (p : Plan) (n : Fin 64) : queueLimit (some p) n =
    2 * (((p.down.entries ++ p.up.entries).find? fun e => decide (e.number = n)).map (·.slots)).getD 0 := by
  rw [← entry_eq_find]
  unfold queueLimit
  dsimp only
  cases p.entry n <;> rfl

theorem raisesOnly_trimQueues (limit : Fin 64 → Nat) {s t : State} (h : t.host.flags = s.host.flags) :
    RaisesOnly [.counterSat] s (trimQueues limit t) := by
  refine raisesOnly_of_formula (b := fun f => (t.table.slots.any fun x => trimSaturates (limit x.record.number) x) &&
    decide (f = .counterSat)) (fun f => ?_) fun f hf => by simp_all
  rw [← flagSet_congr h f]
  exact flagSet_raiseIf _ .counterSat f _

theorem raisesOnly_endRun (r : Run) (s : State) : RaisesOnly [.counterSat] s (endRun r s) := by
  unfold endRun
  generalize computePlan r.stamp r.view r.table = plan
  exact raisesOnly_trimQueues _ rfl

/-- Settles O23: where a run's plan goes, and what its queue limits cut. -/
theorem runEndPlacesPlan : Obligations.RunEndPlacesPlan := by
  intro s hs
  have hexec : exec .planningRunEnd s = .next (judgeRunEnd s) := running_of_runs hs _
  refine ⟨fun hno => ?_, fun r hr hstop => ⟨endRun r s, ?_, ?_, ?_, ?_, ?_, queueLimit_eq _, ?_, ?_⟩⟩
  · rw [hexec]
    unfold judgeRunEnd runDue
    cases hr : s.planner.run with
    | none => rfl
    | some r => rw [Option.filter_some, if_neg (by simpa using hno r hr)]
  · rw [hexec]
    unfold judgeRunEnd runDue
    rw [hr, Option.filter_some, if_pos (by simpa using hstop)]
  · refine (trimQueues_only _ _).planner.trans ?_
    unfold placePlan
    congr 1
  · exact (trimQueues_only _ _).limits
  · exact (trimQueues_only _ _).orders
  · exact trimQueues_slots _ _
  · exact raisesOnly_endRun r s
  · have hframe := endRun_only s r
    generalize endRun r s = t at hframe
    exact hframe.eq_merge

/-! ### Orders taken (R44, R143, R144, R147) -/

theorem planInForce_congr {s t : State} (hp : t.planner = s.planner) (ho : t.orders.stamp = s.orders.stamp) :
    planInForce t = planInForce s := by
  unfold planInForce
  rw [hp, ho]

theorem ranksWorse_eq (before : Option Plan) (e : Entry) : ranksWorse before e =
    decide (servedRank (((before.bind fun q => q.entry e.number).map fun x => x.2.served).getD .fullDual) <
      servedRank e.served) := by
  unfold ranksWorse
  cases before.bind fun q => q.entry e.number <;> rfl

theorem reducesService_eq (before now : Option Plan) : reducesService before now = someRanksWorse before now := by
  unfold reducesService someRanksWorse
  cases now with
  | none => rfl
  | some p => exact congrArg (p.down.entries ++ p.up.entries).any (funext (ranksWorse_eq before))

/-- The state in which an order's stamp, view and plan are in force, and its needs ended (R143). -/
def stamped (o : Order) (s : State) : State :=
  { putInForce o.stamp o.view s with orders := endNeeds o.kind (putInForce o.stamp o.view s).orders }

/-- A take at the truck end: the commit's completion, stamp and plan, the flags, and the link, one after another
(R143). -/
theorem takeAtTruck_eq (o : Order) (s : State) : takeAtTruck o s =
    linkTakes (raiseIf (reducesService (planInForce s) (planInForce (stamped o (if o.kind = .commit then completeOrdered s else s))))
      .serviceReduced (raise .orderTaken (stamped o (if o.kind = .commit then completeOrdered s else s)))) := rfl

section
variable {o : Order} {s u : State} (hu : (if o.kind = .commit then completeOrdered s else s) = u)
include hu

theorem takeAtTruck_planner : (takeAtTruck o s).planner = plannerTaking o.stamp u.planner := by
  rw [takeAtTruck_eq, hu, (linkTakes_only _).planner, (raiseIf_only _ _ _).planner]
  rfl

theorem takeAtTruck_orders : (takeAtTruck o s).orders =
    endNeeds o.kind { u.orders with stamp := o.stamp, view := some o.view } := by
  rw [takeAtTruck_eq, hu, (linkTakes_only _).orders, (raiseIf_only _ _ _).orders]
  rfl

theorem takeAtTruck_table : (takeAtTruck o s).table = u.table := by
  rw [takeAtTruck_eq, hu, (linkTakes_only _).table, (raiseIf_only _ _ _).table]
  rfl

theorem takeAtTruck_changes : (takeAtTruck o s).changes = u.changes := by
  rw [takeAtTruck_eq, hu, (linkTakes_only _).changes, (raiseIf_only _ _ _).changes]
  rfl

theorem takeAtTruck_link : (takeAtTruck o s).link = linkTaking u.link := by
  rw [takeAtTruck_eq, hu, linkTakes_link, (raiseIf_only _ _ _).link]
  rfl

/-- The flags that a take sets beside those of its commit (R133, R144). -/
theorem flagSet_takeAtTruck (f : Flag) : flagSet f (takeAtTruck o s) =
    (((flagSet f u || decide (f = .orderTaken)) ||
      (someRanksWorse (planInForce s) (planInForce (takeAtTruck o s)) && decide (f = .serviceReduced))) ||
      (decide (u.link.state = .syncing) && decide (f = .link))) := by
  have hplan : planInForce (takeAtTruck o s) = planInForce (stamped o u) :=
    planInForce_congr (takeAtTruck_planner hu) (by rw [takeAtTruck_orders hu]; rfl)
  rw [hplan, takeAtTruck_eq, hu, flagSet_linkTakes, flagSet_raiseIf, flagSet_raise, reducesService_eq,
    (raiseIf_only _ _ _).link]
  rfl

theorem raisesOnly_takeAtTruck {fs : List Flag} (h : RaisesOnly fs s u)
    (hfs : ∀ f ∈ [Flag.orderTaken, .serviceReduced, .link], f ∈ fs) : RaisesOnly fs s (takeAtTruck o s) := by
  refine raisesOnly_trans h (raisesOnly_of_formula (b := fun f => (decide (f = .orderTaken) ||
    (someRanksWorse (planInForce s) (planInForce (takeAtTruck o s)) && decide (f = .serviceReduced))) ||
      (decide (u.link.state = .syncing) && decide (f = .link))) (fun f => ?_) fun f hf => hfs f ?_)
  · rw [flagSet_takeAtTruck hu, Bool.or_assoc, Bool.or_assoc, ← Bool.or_assoc (decide (f = .orderTaken))]
  · simp only [Bool.or_eq_true, Bool.and_eq_true, decide_eq_true_eq] at hf
    rcases hf with (rfl | ⟨-, rfl⟩) | ⟨-, rfl⟩ <;> decide

end

theorem completeOrdered_of_ordered {s : State} {j : CommitJob} {epoch : Count} {moved : Bool} (hj : s.orders.commit = some j)
    (hphase : j.phase = .ordered epoch moved) : completeOrdered s = completeCommit j epoch moved s := by
  unfold completeOrdered
  rw [hj]
  dsimp only
  rw [hphase]

theorem raisesOnly_completeOrdered (s : State) : RaisesOnly [.commitDone, .counterSat] s (completeOrdered s) := by
  unfold completeOrdered
  split
  · split
    · exact raisesOnly_completeCommit _ _ _ _
    · exact raisesOnly_of_flags rfl
  · exact raisesOnly_of_flags rfl

theorem takeDueTruck_eq_some {s : State} {o : Order} (hrole : s.role = .truck) (ho : s.orders.pending = some o)
    (hepoch : o.epoch = s.count) : takeDueTruck s = some o := by
  unfold takeDueTruck
  rw [if_pos hrole, ho, Option.filter_some, if_pos (by simpa using hepoch)]

theorem takeDueTruck_eq_none {s : State} (h : s.role = .mast ∨ ∀ o : Order, s.orders.pending = some o → o.epoch ≠ s.count) :
    takeDueTruck s = none := by
  unfold takeDueTruck
  split
  · next hr =>
    have hno := h.resolve_left (by rw [hr]; decide)
    cases ho : s.orders.pending with
    | none => rfl
    | some o => rw [Option.filter_some, if_neg (by simpa using hno o ho)]
  · rfl

/-- Settles O25: a take by its stages, over the state in which a commit's change set is applied. -/
theorem truckTakesOrder : Obligations.TruckTakesOrder := by
  intro s hs
  have hexec : exec .orderTakeTruck s = .next (judgeTakeTruck s) := running_of_runs hs _
  refine ⟨fun hno => ?_, fun o hrole ho hepoch => ⟨takeAtTruck o s, ?_, ?_⟩⟩
  · rw [hexec]
    unfold judgeTakeTruck
    rw [takeDueTruck_eq_none hno]
  · rw [hexec]
    unfold judgeTakeTruck
    rw [takeDueTruck_eq_some hrole ho hepoch]
  · obtain ⟨u, hu⟩ : ∃ u, (if o.kind = .commit then completeOrdered s else s) = u := ⟨_, rfl⟩
    have huonly : Only commitParts s u := hu ▸ .ite (fun _ => completeOrdered_only s) fun _ => .refl _ _
    have huflags : RaisesOnly [.commitDone, .counterSat] s u := by
      subst hu
      split
      · exact raisesOnly_completeOrdered s
      · exact raisesOnly_of_flags rfl
    refine ⟨?_, ?_, ?_, ?_, ?_, fun hkind => ?_, fun j epoch moved hkind hj hphase => ?_, (takeAtTruck_only s o).eq_merge⟩
    · rw [takeAtTruck_planner hu, huonly.planner]
    · rw [takeAtTruck_link hu, huonly.link]
    · rw [flagSet_takeAtTruck hu]; simp
    · rw [flagSet_takeAtTruck hu, (huflags .serviceReduced).2 (by decide)]; simp
    · rw [flagSet_takeAtTruck hu, (huflags .link).2 (by decide), huonly.link]; simp
    · have hus : u = s := by rw [← hu, if_neg hkind]
      subst hus
      refine ⟨takeAtTruck_table hu, takeAtTruck_changes hu, ?_, raisesOnly_takeAtTruck hu (raisesOnly_of_flags rfl) (by decide),
        takeAtTruck_orders hu⟩
      rw [takeAtTruck_eq, hu]
      rw [(linkTakes_only _).eq_merge, (raiseIf_only _ _ _).eq_merge]
      rfl
    · have hus : u = completeCommit j epoch moved s := by rw [← hu, if_pos hkind, completeOrdered_of_ordered hj hphase]
      refine ⟨?_, ?_, ?_, ?_, ?_⟩
      · rw [takeAtTruck_table hu, hus, completeCommit_table, hrole]
      · rw [takeAtTruck_changes hu, hus, completeCommit_changes]
      · rw [flagSet_takeAtTruck hu, hus, flagSet_completeCommit]; simp
      · exact raisesOnly_takeAtTruck hu (raisesOnly_mono huflags) (by decide)
      · rw [takeAtTruck_orders hu, hus, completeCommit_orders, hkind]
        rfl

/-! ### The mast end -/

/-- What the application of a stage at the mast end writes, source by source (R21, R22). -/
theorem applyStage_of_committed {source : Option Source} (h : source = none ∨ source = some .committed) (s : State) :
    applyStage source s = s := by
  rcases h with rfl | rfl <;> rfl

theorem applyStage_of_empty (source : Option Source) {s : State} (h : s.stage.target = none) : applyStage source s = s := by
  unfold applyStage
  rw [h]
  rcases source with _ | _ | _ | _ <;> rfl

theorem applyStage_change {s : State} {g : Word16} (h : s.stage.target = some g) : applyStage (some .changeStage) s =
    { putTable (applyEdits .mast s.table.slots s.stage.items) g (editsSaturate .mast s.table.slots s.stage.items) s with
      stage := StageArea.empty } := by
  unfold applyStage
  rw [h]

theorem applyStage_full {s : State} {g : Word16} (h : s.stage.target = some g) : applyStage (some .fullStage) s =
    { putTable (applyEdits .mast [] s.stage.items) g false s with stage := StageArea.empty } := by
  unfold applyStage
  rw [h]
  rfl

theorem raisesOnly_putTable (slots : List Slot) (g : Word16) (b : Bool) (s : State) :
    RaisesOnly [.counterSat] s (putTable slots g b s) :=
  raisesOnly_of_formula (flagSet_putTable s slots g b) fun f hf => by simp_all

theorem raisesOnly_applyStage (source : Option Source) (s : State) :
    RaisesOnly [.counterSat] s (applyStage source s) := by
  unfold applyStage
  split
  · exact raisesOnly_trans (raisesOnly_putTable _ _ _ s) (raisesOnly_of_flags rfl)
  · exact raisesOnly_trans (raisesOnly_putTable _ _ _ s) (raisesOnly_of_flags rfl)
  · exact raisesOnly_of_flags rfl

/-- The mast end's orders and plan once an order is in force (R147). -/
def mastStamped (h : HeardOrder) (s : State) : State :=
  { putInForce h.order.stamp h.order.view s with
    orders := { (putInForce h.order.stamp h.order.view s).orders with heard := none, mismatch := false } }

/-- A take at the mast end: the stage's application, stamp and plan, and the link, one after another (R147). -/
theorem takeAtMast_eq (h : HeardOrder) (s : State) :
    takeAtMast h s = linkTakes (mastStamped h (applyStage h.source s)) := rfl

section
variable (h : HeardOrder) (s : State)

theorem takeAtMast_orders : (takeAtMast h s).orders =
    { s.orders with stamp := h.order.stamp, view := some h.order.view, heard := none, mismatch := false } := by
  rw [takeAtMast_eq, (linkTakes_only _).orders]
  exact congrArg (fun o : Orders => { o with stamp := h.order.stamp, view := some h.order.view, heard := none, mismatch := false })
    (applyStage_only s h.source).orders

theorem takeAtMast_planner : (takeAtMast h s).planner = plannerTaking h.order.stamp s.planner := by
  rw [takeAtMast_eq, (linkTakes_only _).planner]
  exact congrArg (plannerTaking h.order.stamp) (applyStage_only s h.source).planner

theorem takeAtMast_link : (takeAtMast h s).link = linkTaking s.link := by
  rw [takeAtMast_eq, linkTakes_link]
  exact congrArg linkTaking (applyStage_only s h.source).link

theorem takeAtMast_table : (takeAtMast h s).table = (applyStage h.source s).table := by
  rw [takeAtMast_eq, (linkTakes_only _).table]
  rfl

theorem takeAtMast_stage : (takeAtMast h s).stage = (applyStage h.source s).stage := by
  rw [takeAtMast_eq, (linkTakes_only _).stage]
  rfl

theorem takeAtMast_service : (takeAtMast h s).service = (applyStage h.source s).service := by
  rw [takeAtMast_eq, (linkTakes_only _).eq_merge]
  rfl

theorem flagSet_takeAtMast (f : Flag) : flagSet f (takeAtMast h s) =
    (flagSet f (applyStage h.source s) || (decide (s.link.state = .syncing) && decide (f = .link))) := by
  have hlink : (mastStamped h (applyStage h.source s)).link = s.link := (applyStage_only s h.source).link
  rw [takeAtMast_eq, flagSet_linkTakes, hlink]
  rfl

theorem raisesOnly_takeAtMast {fs : List Flag} (hr : RaisesOnly fs s (applyStage h.source s)) (hl : Flag.link ∈ fs) :
    RaisesOnly fs s (takeAtMast h s) :=
  raisesOnly_trans hr (raisesOnly_of_formula (flagSet_takeAtMast h s) fun f hf => by
    simp only [Bool.and_eq_true, decide_eq_true_eq] at hf
    exact hf.2 ▸ hl)

theorem takeAtMast_of_unstaged (hstage : applyStage h.source s = s) : (takeAtMast h s).table = s.table ∧
    (takeAtMast h s).stage = s.stage ∧ (takeAtMast h s).service = s.service := by
  rw [takeAtMast_table, takeAtMast_stage, takeAtMast_service, hstage]
  exact ⟨rfl, rfl, rfl⟩

end

theorem takeDueMast_eq_some {s : State} {x : HeardOrder} (hrole : s.role = .mast) (hx : s.orders.heard = some x)
    (hepoch : x.order.epoch = s.count) : takeDueMast s = some x := by
  unfold takeDueMast
  rw [if_pos hrole, hx, Option.filter_some, if_pos (by simpa using hepoch)]

theorem takeDueMast_eq_none {s : State}
    (h : s.role = .truck ∨ ∀ x : HeardOrder, s.orders.heard = some x → x.order.epoch ≠ s.count) : takeDueMast s = none := by
  unfold takeDueMast
  split
  · next hr =>
    have hno := h.resolve_left (by rw [hr]; decide)
    cases hx : s.orders.heard with
    | none => rfl
    | some x => rw [Option.filter_some, if_neg (by simpa using hno x hx)]
  · rfl

/-- Settles O26: a take by its stages, over the state in which the stage is applied. -/
theorem mastTakesOrder : Obligations.MastTakesOrder := by
  intro s hs
  have hexec : exec .orderTakeMast s = .next (judgeTakeMast s) := running_of_runs hs _
  refine ⟨fun hno => ?_, fun x hrole hx hepoch => ⟨takeAtMast x s, ?_, takeAtMast_orders x s, takeAtMast_planner x s,
    takeAtMast_link x s, ?_, raisesOnly_takeAtMast x s (raisesOnly_mono (raisesOnly_applyStage x.source s)) (by decide),
    fun hsource => ?_, fun g hsource hg => ?_, fun g hsource hg => ?_,
    fun hg => takeAtMast_of_unstaged x s (applyStage_of_empty _ hg), (takeAtMast_only s x).eq_merge⟩⟩
  · rw [hexec]
    unfold judgeTakeMast
    rw [takeDueMast_eq_none hno]
  · rw [hexec]
    unfold judgeTakeMast
    rw [takeDueMast_eq_some hrole hx hepoch]
  · rw [flagSet_takeAtMast, (raisesOnly_applyStage x.source s .link).2 (by decide)]
    simp
  · have hstage := applyStage_of_committed hsource s
    obtain ⟨htable, harea, hservice⟩ := takeAtMast_of_unstaged x s hstage
    exact ⟨htable, harea, hservice,
      raisesOnly_takeAtMast x s (by rw [hstage]; exact raisesOnly_of_flags rfl) (by decide)⟩
  · rw [takeAtMast_table, takeAtMast_stage, hsource, applyStage_change hg]
    exact ⟨putTable_table _ _ _ _, rfl⟩
  · rw [takeAtMast_table, takeAtMast_stage, hsource, applyStage_full hg]
    exact ⟨putTable_table _ _ _ _, rfl⟩

end Sys2Proof.Ordering
end

section
/-! The link (chapter 6): the drops of a move, LINK START and LINK STOP, and the call schedule. -/

-- One declaration after another: side by side, the proofs of the text need more memory than its check allows.
set_option Elab.async false

namespace Sys2Proof.Linking

open Sys2Proof Sys2Proof.Machine Sys2Proof.Claims Sys2Proof.Frame Sys2Proof.Slots Sys2Proof.RolePromise
  Sys2Proof.LinkPromise Sys2Proof.Ordering

/-! ### The drops of a move (R45, R130, R131, R174) -/

theorem commitKept_eq (s : State) : commitKept s.orders.commit = if ordered s then s.orders.commit else none := by
  unfold commitKept ordered
  cases s.orders.commit with
  | none => rfl
  | some j =>
    obtain ⟨phase, code, target, total, transfer⟩ := j
    cases phase <;> rfl

section
variable (s : State)

/-- The flags that the drops may set: COMMIT_ABANDONED for a commit that is not ORDERED, and COUNTER_SAT. -/
theorem flagSet_abandonCommit (f : Flag) : flagSet f (abandonCommit s) =
    (flagSet f s || ((s.orders.commit.isSome && !ordered s) && decide (f = .commitAbandoned))) := by
  have hkept : (s.orders.commit.isSome && (commitKept s.orders.commit).isNone) = (s.orders.commit.isSome && !ordered s) := by
    rw [commitKept_eq]
    cases s.orders.commit <;> cases ordered s <;> rfl
  unfold abandonCommit
  rw [hkept]
  exact flagSet_raiseIf _ .commitAbandoned f s

theorem raisesOnly_dropAll : RaisesOnly [.commitAbandoned, .counterSat] s (dropAll s) := by
  refine raisesOnly_trans (raisesOnly_mono (raisesOnly_trimQueues (fun _ => 0) (rfl : s.host.flags = s.host.flags))) ?_
  exact raisesOnly_of_formula (flagSet_abandonCommit (trimQueues (fun _ => 0) s)) fun f hf => by simp_all

theorem flagSet_dropAll : flagSet .commitAbandoned (dropAll s) =
    (flagSet .commitAbandoned s || (s.orders.commit.isSome && !ordered s)) := by
  have htrim := trimQueues_only s fun _ => 0
  have hordered : ordered (trimQueues (fun _ => 0) s) = ordered s := by unfold ordered; rw [htrim.orders]
  calc flagSet .commitAbandoned (dropAll s)
      = flagSet .commitAbandoned (abandonCommit (trimQueues (fun _ => 0) s)) := rfl
    _ = _ := by
      rw [flagSet_abandonCommit, hordered, htrim.orders,
        (raisesOnly_trimQueues (fun _ => 0) (rfl : s.host.flags = s.host.flags) .commitAbandoned).2 (by decide)]
      simp

/-- The parts of which the drops say what becomes of them, or leave it open. -/
def leftParts : List Part := [.slots, .generation, .exhausted, .stray, .limits, .delivered, .flags, .held, .orders, .planner,
  .stage, .chan, .link, .counting]

/-- All that a move drops and keeps, as the drops leave it. -/
theorem dropped_dropAll : Dropped s (dropAll s) := by
  obtain ⟨hplanner, hstage, hchan, -, horders, htable, hservice⟩ := dropAll_fields s
  refine ⟨hplanner, hstage, htable, hservice, ?_, ?_, ?_, flagSet_dropAll s, ?_⟩
  · rw [hchan]
    rfl
  · rw [horders]
    rfl
  · rw [horders]
    change (commitKept s.orders.commit).map _ = _
    rw [commitKept_eq]
    split <;> rfl
  · exact ((dropAll_only s).mono (qs := leftParts)).eq_merge

theorem keptForSending_dropAll : KeptForSending s (dropAll s) := by
  obtain ⟨-, -, hchan, -, horders, -, -⟩ := dropAll_fields s
  unfold KeptForSending
  rw [hchan, horders]
  exact ⟨rfl, commitKept_eq s⟩

end

/-- The parts that stand apart from the drops: the link itself, the count's run, the flags and the held answer. -/
def movedParts : List Part := [.link, .counting, .flags, .held]

section
variable {s t u : State}

theorem dropped_moved (h : Dropped s t) (ho : Only movedParts t u)
    (hf : flagSet .commitAbandoned u = flagSet .commitAbandoned t) : Dropped s u := by
  obtain ⟨h1, h2, h3, h4, h5, h6, h7, h8, h9⟩ := h
  have heq := ho.eq_merge
  unfold Dropped
  rw [hf, ho.planner, ho.stage, ho.table, ho.chan, ho.orders]
  refine ⟨h1, h2, h3, ?_, h5, h6, h7, h8, ?_⟩
  · rw [← h4, heq]
    rfl
  · rw [heq, h9]
    rfl

theorem keptForSending_moved (h : KeptForSending s t) (ho : Only movedParts t u) : KeptForSending s u := by
  unfold KeptForSending
  rw [ho.chan, ho.orders]
  exact h

end

/-- A move of the link with its drops: what it drops and keeps, and the flags that it sets (R130 to R133). -/
structure Moved (s t : State) (k : LinkState) : Prop where
  dropped : Dropped s t
  kept : KeptForSending s t
  counting : t.counting = s.counting
  held : t.host.held = s.host.held
  link : flagSet .link t = (flagSet .link s || decide (k ≠ s.link.state))
  flags : RaisesOnly [.link, .commitAbandoned, .counterSat] s t

/-- The drops followed by the link's own move. -/
theorem moved_of_setLink {s t : State} {k : LinkState} (ho : Only [.link] (setLink k (dropAll s)) t) : Moved s t k := by
  have hset := setLink_only (dropAll s) k
  have hlink : (dropAll s).link.state = s.link.state := by
    obtain ⟨-, -, -, hlink, -⟩ := dropAll_fields s
    rw [hlink]
  have hparts : Only movedParts (dropAll s) t := (hset.mono).also ho
  have hflag : ∀ f, flagSet f t = (flagSet f (dropAll s) || (decide (k ≠ s.link.state) && decide (f = .link))) := fun f => by
    rw [flagSet_congr ho.flags, setLink_flags, hlink]
  refine ⟨dropped_moved (dropped_dropAll s) hparts (by rw [hflag]; simp), keptForSending_moved (keptForSending_dropAll s) hparts, ?_, ?_, ?_, ?_⟩
  · exact ho.counting.trans (hset.counting.trans (dropAll_only s).counting)
  · have h1 : t.host.held = (setLink k (dropAll s)).host.held := ho .held (by decide)
    have h2 : (setLink k (dropAll s)).host.held = (dropAll s).host.held := hset .held (by decide)
    have h3 : (dropAll s).host.held = s.host.held := dropAll_only s .held (by decide)
    rw [h1, h2, h3]
  · rw [hflag, (raisesOnly_dropAll s .link).2 (by decide)]
    simp
  · exact raisesOnly_trans (raisesOnly_mono (raisesOnly_dropAll s)) (raisesOnly_of_formula hflag fun f hf => by simp_all)

theorem moved_calling (s : State) : Moved s (moveToCalling s) .calling := moved_of_setLink (startRound_only _)

theorem moved_standby (s : State) : Moved s (moveToStandby s) .standby := moved_of_setLink (stopSchedule_only _)

theorem calling_eq (s : State) : (moveToCalling s).link = calling s := by
  obtain ⟨-, -, -, hlink, -⟩ := dropAll_fields s
  rw [moveToCalling_link, hlink]
  rfl

theorem standby_eq (s : State) : (moveToStandby s).link = standby s := by
  obtain ⟨-, -, -, hlink, -⟩ := dropAll_fields s
  rw [moveToStandby_link, hlink]
  rfl

/-! ### LINK START and LINK STOP (R120, R132) -/

/-- Settles O46: both requests are a move with its drops, the one also letting the count run. -/
theorem linkStartsAndStops : Obligations.LinkStartsAndStops := by
  intro s hs
  have hstart : exec (.linkStart []) s = .next (linkStart s) := request_of_length hs rfl _
  have hstop : exec (.linkStop []) s = .next (linkStop s) := request_of_length hs rfl _
  refine ⟨fun hne => ?_, fun heq => ⟨respond 0x30 .ok [] { moveToCalling s with counting := true }, ?_, ?_, ?_, calling_eq s,
    rfl, rfl, ?_, ?_⟩, fun heq => ?_, fun hne => ⟨respond 0x31 .ok [] (moveToStandby s), ?_, ?_, ?_, standby_eq s, ?_, rfl, ?_, ?_⟩⟩
  · rw [hstart]
    unfold linkStart
    rw [if_neg hne]
  · rw [hstart]
    unfold linkStart
    rw [if_pos heq]
  · exact dropped_moved (moved_calling s).dropped (.of_eq rfl) rfl
  · exact keptForSending_moved (moved_calling s).kept (.of_eq rfl)
  · exact (moved_calling s).link.trans (by rw [heq]; simp)
  · exact raisesOnly_trans (moved_calling s).flags (raisesOnly_of_flags rfl)
  · rw [hstop]
    unfold linkStop
    rw [if_pos heq]
  · rw [hstop]
    unfold linkStop
    rw [if_neg hne]
  · exact dropped_moved (moved_standby s).dropped (.of_eq rfl) rfl
  · exact keptForSending_moved (moved_standby s).kept (.of_eq rfl)
  · exact (moved_standby s).counting
  · exact (moved_standby s).link.trans (by simp [Ne.symm hne])
  · exact raisesOnly_trans (moved_standby s).flags (raisesOnly_of_flags rfl)

/-! ### The call schedule (R121, R123) -/

section
variable {s : State}

theorem expireWindow_of_not_due (h : scheduleDue .window s ≠ true) : expireWindow s = s := by
  unfold expireWindow
  rw [if_neg h]

theorem expireGap_of_not_due (h : scheduleDue .gap s ≠ true) : expireGap s = s := by
  unfold expireGap
  rw [if_neg h]

theorem expireRecall_of_not_due (h : scheduleDue .recallWait s ≠ true) : expireRecall s = s := by
  unfold expireRecall
  rw [if_neg h]

/-- The third window's expiry fails the round (R123). -/
theorem expireWindow_of_last (h : scheduleDue .window s = true) (ha : 3 ≤ s.link.attempt) : expireWindow s = failRound s := by
  unfold expireWindow
  rw [if_pos h, if_neg (by omega)]

theorem failRound_of_recall (h : s.params.recallInterval ≠ 0) : failRound s = raise .callFailed { s with link := { s.link with
    phase := some .recallWait, timer := some (8000 * s.params.recallInterval) } } := by
  unfold failRound
  exact if_neg h

theorem failRound_of_none (h : s.params.recallInterval = 0) : failRound s = moveToStandby (raise .callFailed s) := by
  unfold failRound
  exact if_pos h

/-- CALL_FAILED set before the drops stays beside them. -/
theorem dropped_of_raised {t : State} (h : Dropped (raise .callFailed s) t) : Dropped s t := by
  obtain ⟨h1, h2, h3, h4, h5, h6, h7, h8, h9⟩ := h
  refine ⟨h1, h2, h3, h4, h5, h6, h7, ?_, h9⟩
  rw [h8, flagSet_raise]
  simp
  rfl

end

/-- Settles O47: each expiry has its effect exactly where its phase's timer is due. -/
theorem callScheduleMoves : Obligations.CallScheduleMoves := by
  intro s hs
  have hwindow : exec .callWindowExpiry s = .next (expireWindow s) := running_of_runs hs _
  have hgap : exec .gapExpiry s = .next (expireGap s) := running_of_runs hs _
  have hrecall : exec .recallWaitExpiry s = .next (expireRecall s) := running_of_runs hs _
  dsimp only
  rw [hwindow, hgap, hrecall]
  refine ⟨fun hno => ?_, fun hcalling htimer => ?_⟩
  · have hdue : ∀ p, scheduleDue p s ≠ true := fun p hp => by
      obtain ⟨hc, -, ht⟩ := (scheduleDue_iff p s).1 hp
      exact hno.elim (fun h => h hc) fun h => h ((Guarding.timerDue_iff _).1 ht)
    rw [expireWindow_of_not_due (hdue _), expireGap_of_not_due (hdue _), expireRecall_of_not_due (hdue _)]
    exact ⟨rfl, rfl, rfl⟩
  · have hdue : ∀ p, s.link.phase = some p → scheduleDue p s = true := fun p hp => (scheduleDue_iff p s).2 ⟨hcalling, hp, (Guarding.timerDue_iff _).2 htimer⟩
    have hnot : ∀ p, s.link.phase ≠ some p → scheduleDue p s ≠ true := fun p hp h => hp ((scheduleDue_iff p s).1 h).2.1
    refine ⟨fun hp ha => ?_, fun hp ha hr => ?_, fun hp ha hr => ⟨moveToStandby (raise .callFailed s), ?_, ?_⟩, fun hp => ?_,
      fun hp => ?_, fun hp => ?_, fun hp => ?_, fun hp => ?_⟩
    · unfold expireWindow
      rw [if_pos (hdue _ hp), if_pos ha]
      rfl
    · rw [expireWindow_of_last (hdue _ hp) ha, failRound_of_recall hr]
    · rw [expireWindow_of_last (hdue _ hp) ha, failRound_of_none hr]
    · have hm := moved_standby (raise .callFailed s)
      refine ⟨dropped_of_raised hm.dropped, hm.kept, standby_eq _, hm.counting, hm.held, ?_, ?_, ?_⟩
      · rw [(hm.flags .callFailed).2 (by decide), flagSet_raise]; simp
      · rw [hm.link, raise_link, hcalling]; simp
      · exact raisesOnly_trans (raisesOnly_raise .callFailed) (raisesOnly_mono hm.flags)
    · unfold expireGap
      rw [if_pos (hdue _ hp)]
      rfl
    · unfold expireRecall
      rw [if_pos (hdue _ hp)]
      rfl
    · rw [expireWindow_of_not_due (hnot _ hp)]
    · rw [expireGap_of_not_due (hnot _ hp)]
    · rw [expireRecall_of_not_due (hnot _ hp)]

end Sys2Proof.Linking
end

section
/-! Control cycles (chapter 5): the message that a cycle forms, the judgement of the cycle that ends, and the expiry of
holdover. -/

-- One declaration after another: side by side, the proofs of the text need more memory than its check allows.
set_option Elab.async false

namespace Sys2Proof.Cycles

open Sys2Proof Sys2Proof.Machine Sys2Proof.Claims Sys2Proof.Frame Sys2Proof.Slots Sys2Proof.RolePromise
  Sys2Proof.LinkPromise Sys2Proof.Ordering Sys2Proof.Linking

/-! ### The messages, field by field (R106, R108) -/

section
variable (s : State)

theorem laneReports_eq : laneReports s = ⟨laneReported s 0, laneReported s 1, laneReported s 2, laneReported s 3⟩ := rfl

theorem runningTransfer_eq : runningTransfer s = transferring s := by
  unfold runningTransfer transferring
  cases s.orders.fullSync <;> cases s.orders.commit <;> rfl

theorem transferPaused_eq : transferPaused s = sendingPaused s := by
  unfold transferPaused sendingPaused
  rw [CircuitTable.frozen_eq_eitherDeadBand]

theorem itemIndex_eq (latest : Option Reply) (target : Word16) (mode : StageMode) (n : Nat) :
    itemIndex latest target mode n = itemChosen latest target mode n := by
  unfold itemIndex itemChosen
  cases latest with
  | none => rfl
  | some m =>
    simp only [reportsStage, Bool.and_eq_true, decide_eq_true_eq]
    by_cases ht : m.stageTarget = some target ∧ m.stageMode = mode
    · obtain ⟨h1, h2⟩ := ht
      simp only [h1, h2, true_and]
      split_ifs <;> omega
    · rw [if_neg fun h => ht h.1, if_neg fun h => ht h.1, if_neg fun h => ht ⟨h.1, h.2.1⟩]

theorem steeringItem_eq : steeringItem s = itemCarried s := by
  unfold steeringItem itemCarried
  rw [runningTransfer_eq, transferPaused_eq]
  cases transferring s with
  | none => rfl
  | some x =>
    obtain ⟨t, target, mode, items⟩ := x
    dsimp only
    simp only [Bool.and_eq_true, Bool.not_eq_true']
    congr 1
    unfold transferItem
    rw [itemIndex_eq]
    rfl

theorem pausedMark_eq : pausedMark s = (steeringCarried s).paused := by
  unfold pausedMark steeringCarried
  cases h : transferring s with
  | none => simp only [runningTransfer_eq, h]
  | some x => simp only [runningTransfer_eq, transferPaused_eq, h]

theorem pendingField_eq : pendingField s = (steeringCarried s).order := by
  unfold pendingField steeringCarried
  cases h : s.orders.pending with
  | none => simp only [Option.map_none]
  | some o =>
    obtain ⟨epoch, stamp, view, kind⟩ := o
    cases kind <;> simp

theorem formSteering_eq : formSteering s = steeringCarried s := by
  calc formSteering s = { steeringCarried s with order := pendingField s, item := steeringItem s, paused := pausedMark s } := rfl
    _ = { steeringCarried s with order := (steeringCarried s).order, item := itemCarried s, paused := (steeringCarried s).paused } := by
      rw [pendingField_eq, steeringItem_eq, pausedMark_eq]
    _ = steeringCarried s := rfl

theorem formReply_eq (echo : Word16) (hr : s.role = .mast) : formReply echo s = replyCarried echo s := by
  have hblank : inBlank s =
      decide ((s.orders.stamp ≠ ⟨0, 0⟩ ∧ planInForce s = none) ∨ s.orders.mismatch = true) := by
    unfold inBlank
    rw [hr, decide_eq_true rfl, Bool.true_and, Bool.decide_or, Bool.decide_and, Bool.decide_eq_true]
    cases planInForce s <;> rfl
  unfold formReply replyCarried
  rw [hblank, laneReports_eq]
  rfl

/-- A truck end whose message is formed: the transfers note it, and its halves are to be sent (R101, R152). -/
def steeringFormed : State :=
  { s with
    orders := mapTransfers Transfer.sending s.orders
    chan := { s.chan with
      toSend := [firstHalf (steeringBytes (steeringCarried s)), secondHalf (steeringBytes (steeringCarried s))] } }

/-- A mast end whose reply is formed: the message noted is answered, and the halves are to be sent (R101, R109). -/
def replyFormed (k : Word16) : State :=
  { s with chan := { s.chan with
      echo := none
      toSend := [firstHalf (replyBytes (replyCarried k s)), secondHalf (replyBytes (replyCarried k s))] } }

end

section
variable {s t u : State}

theorem linkHolds_iff (k : LinkState) : linkHolds k = true ↔ k = .syncing ∨ k = .carrying ∨ k = .holdover := by
  cases k <;> simp [linkHolds]

theorem formMessage_of_void (h : beginsVoid s.params.c s.count = true) : formMessage s = s := by
  unfold formMessage
  rw [if_pos h]

/-- At the truck end each cycle but a void one forms a steering message, in STANDBY excepted (R101, R102). -/
theorem formMessage_truck (hv : beginsVoid s.params.c s.count = false) (hr : s.role = .truck) :
    formMessage s = if s.link.state = .standby then s else steeringFormed s := by
  unfold formMessage
  rw [if_neg (by simp [hv]), formSteering_eq]
  split
  · rfl
  · next hm => rw [hr] at hm; cases hm

theorem formMessage_of_standby (hr : s.role = .truck) (hl : s.link.state = .standby) : formMessage s = s := by
  cases hv : beginsVoid s.params.c s.count with
  | true => exact formMessage_of_void hv
  | false => rw [formMessage_truck hv hr, if_pos hl]

theorem formMessage_of_truck (hv : beginsVoid s.params.c s.count = false) (hr : s.role = .truck)
    (hl : s.link.state ≠ .standby) : formMessage s = steeringFormed s := by
  rw [formMessage_truck hv hr, if_neg hl]

theorem formMessage_of_unheard (hr : s.role = .mast) (he : s.chan.echo = none) : formMessage s = s := by
  unfold formMessage
  split
  · rfl
  · split
    · next ht => rw [hr] at ht; cases ht
    · split
      · next k hk => rw [he] at hk; cases hk
      · rfl

theorem formMessage_of_unheld (hr : s.role = .mast)
    (hl : ¬ (s.link.state = .syncing ∨ s.link.state = .carrying ∨ s.link.state = .holdover)) : formMessage s = s := by
  unfold formMessage
  split
  · rfl
  · split
    · next ht => rw [hr] at ht; cases ht
    · split
      · exact if_neg fun h => hl ((linkHolds_iff _).1 h)
      · rfl

theorem formMessage_of_mast {k : Word16} (hv : beginsVoid s.params.c s.count = false) (hr : s.role = .mast)
    (he : s.chan.echo = some k) (hl : s.link.state = .syncing ∨ s.link.state = .carrying ∨ s.link.state = .holdover) :
    formMessage s = replyFormed s k := by
  unfold formMessage
  rw [if_neg (by simp [hv])]
  split
  · next ht => rw [hr] at ht; cases ht
  · split
    · next k' hk =>
      obtain rfl : k = k' := Option.some_inj.1 (he.symm.trans hk)
      rw [if_pos ((linkHolds_iff _).2 hl), formReply_eq s k hr]
      rfl
    · next hk => rw [he] at hk; cases hk

/-- That the transfers note a message changes none of what they carry. -/
theorem transferring_steeringFormed : transferring (steeringFormed s) =
    (transferring s).map fun x => (x.1.sending, x.2.1, x.2.2.1, x.2.2.2) := by
  unfold transferring steeringFormed mapTransfers
  cases s.orders.fullSync <;> cases s.orders.commit <;> rfl

theorem itemCarried_steeringFormed : itemCarried (steeringFormed s) = itemCarried s := by
  unfold itemCarried
  rw [transferring_steeringFormed]
  cases transferring s <;> rfl

theorem paused_steeringFormed : (steeringCarried (steeringFormed s)).paused = (steeringCarried s).paused := by
  unfold steeringCarried
  dsimp only
  cases h : transferring s with
  | none => simp only [transferring_steeringFormed, h, Option.map_none]
  | some x => simp only [transferring_steeringFormed, h, Option.map_some]; rfl

/-- The message that was formed is the one that the state then gives. -/
theorem steeringCarried_steeringFormed : steeringCarried (steeringFormed s) = steeringCarried s := by
  calc steeringCarried (steeringFormed s)
      = { steeringCarried s with
          item := itemCarried (steeringFormed s), paused := (steeringCarried (steeringFormed s)).paused } := rfl
    _ = { steeringCarried s with item := itemCarried s, paused := (steeringCarried s).paused } := by
      rw [itemCarried_steeringFormed, paused_steeringFormed]
    _ = steeringCarried s := rfl

/-- Forming the message of a state that differs from the one before in neither role, configuration nor count gives the
control slots of the cycle that begins. -/
theorem messageFormed_formMessage (hr : u.role = s.role) (hp : u.params = s.params) (hc : u.count = s.count)
    (ht : u.chan.toSend = s.chan.toSend) (he : s.role = .mast → u.chan.echo = s.chan.echo) : messageFormed s (formMessage u) := by
  unfold messageFormed
  rw [← hp, ← hc, ← ht]
  cases hv : beginsVoid u.params.c u.count with
  | true => rw [if_pos rfl, formMessage_of_void hv]
  | false =>
    rw [if_neg Bool.false_ne_true]
    cases hrole : s.role with
    | truck =>
      rw [hrole] at hr
      rw [(formMessage_only u).link]
      dsimp only
      by_cases hl : u.link.state = .standby
      · rw [if_pos hl, formMessage_of_standby hr hl]
      · rw [if_neg hl, formMessage_of_truck hv hr hl, steeringCarried_steeringFormed]
        rfl
    | mast =>
      rw [hrole] at hr
      rw [(formMessage_only u).link, ← he hrole]
      dsimp only
      cases hecho : u.chan.echo with
      | none => exact congrArg (fun x => x.chan.toSend) (formMessage_of_unheard hr hecho)
      | some k =>
        dsimp only
        split
        · next hl =>
          rw [formMessage_of_mast hv hr hecho hl]
          exact ⟨rfl, rfl⟩
        · next hl => rw [formMessage_of_unheld hr hl]

/-- The reply noted is answered where one is formed (R109). -/
theorem formMessage_echo : (formMessage u).chan.echo =
    if beginsVoid u.params.c u.count = true ∨ u.role = .truck ∨
      (u.link.state ≠ .syncing ∧ u.link.state ≠ .carrying ∧ u.link.state ≠ .holdover) then u.chan.echo else none := by
  cases hv : beginsVoid u.params.c u.count with
  | true => rw [if_pos (.inl rfl), formMessage_of_void hv]
  | false =>
    cases hr : u.role with
    | truck =>
      rw [if_pos (.inr (.inl rfl))]
      by_cases hl : u.link.state = .standby
      · rw [formMessage_of_standby hr hl]
      · rw [formMessage_of_truck hv hr hl]
        rfl
    | mast =>
      by_cases hl : u.link.state = .syncing ∨ u.link.state = .carrying ∨ u.link.state = .holdover
      · rw [if_neg (by tauto)]
        cases he : u.chan.echo with
        | none => rw [formMessage_of_unheard hr he, he]
        | some k => rw [formMessage_of_mast hv hr he hl]; rfl
      · rw [if_pos (.inr (.inr (by tauto))), formMessage_of_unheld hr hl]

/-- The transfers note a steering message where one is formed (R152). -/
theorem formMessage_orders_eq : (formMessage u).orders =
    if beginsVoid u.params.c u.count = false ∧ u.role = .truck ∧ u.link.state ≠ .standby then
      mapTransfers (fun x => ⟨x.opened, true, x.sentNow⟩) u.orders else u.orders := by
  cases hv : beginsVoid u.params.c u.count with
  | true => rw [if_neg (by simp), formMessage_of_void hv]
  | false =>
    cases hr : u.role with
    | truck =>
      by_cases hl : u.link.state = .standby
      · rw [if_neg (by simp [hl]), formMessage_of_standby hr hl]
      · rw [if_pos ⟨rfl, rfl, hl⟩, formMessage_of_truck hv hr hl]
        rfl
    | mast =>
      rw [if_neg (by simp)]
      by_cases hl : u.link.state = .syncing ∨ u.link.state = .carrying ∨ u.link.state = .holdover
      · cases he : u.chan.echo with
        | none => rw [formMessage_of_unheard hr he]
        | some k => rw [formMessage_of_mast hv hr he hl]; rfl
      · rw [formMessage_of_unheld hr hl]

/-- Forming a message writes of the control channel what is to be sent and the message noted. -/
theorem formMessage_chan : (formMessage u).chan =
    { u.chan with toSend := (formMessage u).chan.toSend, echo := (formMessage u).chan.echo } := by
  unfold formMessage
  split
  · rfl
  · split
    · split <;> rfl
    · split
      · split <;> rfl
      · rfl

end

/-! ### The judgement of a cycle (R112 to R114, R127, R128) -/

/-- The link holds at both ends, so that a cycle is judged for a miss (R112). -/
def holding (k : Link) : Bool := decide (k.state ≠ .standby ∧ k.state ≠ .calling)

/-- The cycle that ends is judged: it was not void, and the link holds (R112). -/
def cycleJudged (s : State) : Bool := !endsVoid s.params.c s.count && holding s.link

/-- The cycle that ends is judged a miss (R112). -/
def cycleMissed (s : State) : Bool := cycleJudged s && !s.chan.accepted

/-- The control channel after a cycle that is judged, or not, a miss (R112 to R114). -/
def missesCounted (missed : Bool) (missLimit : Nat) (c : Channel) : Channel :=
  let misses := if missed then min 15 (c.missCount + 1) else c.missCount
  { c with missCount := misses, silent := c.silent || (missed && decide (missLimit ≤ misses)) }

theorem judgeMiss_eq (missLimit : Nat) (c : Channel) : judgeMiss missLimit c = missesCounted (!c.accepted) missLimit c := by
  unfold judgeMiss missesCounted
  obtain ⟨missCount, silent, accepted⟩ := c
  cases accepted with
  | true => simp
  | false => rfl

theorem missesCounted_false (missLimit : Nat) (c : Channel) : missesCounted false missLimit c = c := by
  simp [missesCounted]

section
variable (silent : Bool) (p : Params) {k : Link}

theorem linkJudged_of_syncing (h : k.state = .syncing) : linkJudged silent p k = if silent then
    { k with state := .holdover, origin := some .syncing, holdCount := 0, expiryDue := false } else k := by
  unfold linkJudged
  rw [h]

theorem linkJudged_of_carrying (h : k.state = .carrying) : linkJudged silent p k = if silent then
    { k with state := .holdover, origin := some .carrying, holdCount := 0, expiryDue := false } else k := by
  unfold linkJudged
  rw [h]

theorem linkJudged_of_holdover (h : k.state = .holdover) : linkJudged silent p k = { k with
    holdCount := k.holdCount + 1
    expiryDue := decide (p.holdoverBase * 2 ^ p.holdoverScale ≤ k.holdCount + 1) } := by
  obtain ⟨state⟩ := k
  obtain rfl : state = .holdover := h
  rfl

/-- The judgement leaves the limit as it was formed. -/
theorem linkJudged_limit (n : Nat) (k : Link) :
    linkJudged silent p { k with limit := n } = { linkJudged silent p k with limit := n } := by
  obtain ⟨state⟩ := k
  cases state <;> cases silent <;> rfl

end

section
variable (s : State)

theorem enterHoldover_link (origin : Origin) : (enterHoldover origin s).link =
    { s.link with state := .holdover, origin := some origin, holdCount := 0, expiryDue := false } := by
  unfold enterHoldover
  dsimp only
  rw [setLink_link]

theorem flagSet_enterHoldover (origin : Origin) (f : Flag) : flagSet f (enterHoldover origin s) =
    (flagSet f s || (decide (.holdover ≠ s.link.state) && decide (f = .link))) := by
  rw [← setLink_flags]
  rfl

/-- A link that does not hold judges no cycle. -/
theorem judgeCycle_of_not_holding (h : holding s.link = false) : judgeCycle s = s := by
  refine judgeCycle_of_waits ?_
  have hw : ¬ (s.link.state ≠ .standby ∧ s.link.state ≠ .calling) := by simpa [holding] using h
  unfold Waits
  tauto

/-- The misses of a cycle that is judged are counted. -/
def counted : State := { s with chan := judgeMiss s.params.missLimit s.chan }

/-- A SYNCING or CARRYING link that has fallen silent goes to HOLDOVER (R127). -/
def silenced (origin : Origin) : State := if (counted s).chan.silent then enterHoldover origin (counted s) else counted s

theorem judgeCycle_of_syncing (h : s.link.state = .syncing) : judgeCycle s = silenced s .syncing := by
  unfold judgeCycle
  rw [h]
  rfl

theorem judgeCycle_of_carrying (h : s.link.state = .carrying) : judgeCycle s = silenced s .carrying := by
  unfold judgeCycle
  rw [h]
  rfl

theorem judgeCycle_of_holdover (h : s.link.state = .holdover) : judgeCycle s = countHoldover (counted s) := by
  unfold judgeCycle
  rw [h]
  rfl

theorem counted_chan : (counted s).chan = missesCounted (!s.chan.accepted) s.params.missLimit s.chan := judgeMiss_eq _ _

/-- What the judgement of a cycle leaves of channel, link and flags, for a new link. -/
structure Judged (s t : State) (new : Link) : Prop where
  chan : t.chan = missesCounted (!s.chan.accepted) s.params.missLimit s.chan
  link : t.link = new
  flags : ∀ f, flagSet f t = (flagSet f s || (decide (new.state ≠ s.link.state) && decide (f = .link)))

theorem judged_silenced (origin : Origin) : Judged s (silenced s origin) (if (counted s).chan.silent then
    { s.link with state := .holdover, origin := some origin, holdCount := 0, expiryDue := false } else s.link) := by
  unfold silenced
  split
  · exact ⟨(enterHoldover_only _ _).chan.trans (counted_chan s), enterHoldover_link _ _, fun f => flagSet_enterHoldover _ _ _⟩
  · exact ⟨counted_chan s, rfl, fun f => by simp [counted, flagSet]⟩

/-- What the judgement of a cycle does to a link that holds, its limit formed already. -/
theorem judged_judgeCycle (h : holding s.link = true) (hl : s.link.limit = holdoverLimit s.params) :
    Judged s (judgeCycle s) (linkJudged (counted s).chan.silent s.params s.link) := by
  have hh : s.link.state ≠ .standby ∧ s.link.state ≠ .calling := of_decide_eq_true h
  cases hs : s.link.state with
  | standby => exact absurd hs hh.1
  | calling => exact absurd hs hh.2
  | syncing =>
    rw [judgeCycle_of_syncing s hs, linkJudged_of_syncing _ _ hs]
    exact judged_silenced s .syncing
  | carrying =>
    rw [judgeCycle_of_carrying s hs, linkJudged_of_carrying _ _ hs]
    exact judged_silenced s .carrying
  | holdover =>
    rw [judgeCycle_of_holdover s hs, linkJudged_of_holdover _ _ hs]
    refine ⟨counted_chan s, ?_, fun f => ?_⟩
    · rw [show s.params.holdoverBase * 2 ^ s.params.holdoverScale = s.link.limit from hl.symm]
      rfl
    · simp [countHoldover, counted, flagSet]

/-- The state at a cycle end whose limit is formed and whose cycle is judged, before the message of the next. -/
def cycleClosed : State :=
  let u := if endsVoid s.params.c s.count then formLimit s else judgeCycle (formLimit s)
  { u with chan := { u.chan with accepted := false, cycleDue := false } }

theorem endCycle_eq : endCycle s = if (cycleClosed s).link.expiryDue then cycleClosed s else formMessage (cycleClosed s) := rfl

theorem cycleClosed_only : Only [.chan, .link, .flags] s (cycleClosed s) := by
  unfold cycleClosed
  refine Only.trans (t := if endsVoid s.params.c s.count then formLimit s else judgeCycle (formLimit s)) ?_ (.of_eq rfl)
  exact .ite (fun _ => .of_eq rfl) fun _ => Only.trans (t := formLimit s) (.of_eq rfl) (judgeCycle_only _)

/-- What a cycle end leaves of channel, link and flags, before the message of the next cycle. -/
theorem cycleClosed_parts : (cycleClosed s).chan =
      { missesCounted (cycleMissed s) s.params.missLimit s.chan with accepted := false, cycleDue := false } ∧
    (cycleClosed s).link = { (if cycleJudged s then linkJudged (cycleClosed s).chan.silent s.params s.link else s.link) with
      limit := s.params.holdoverBase * 2 ^ s.params.holdoverScale } ∧
    ∀ f, flagSet f (cycleClosed s) =
      (flagSet f s || (decide ((cycleClosed s).link.state ≠ s.link.state) && decide (f = .link))) := by
  have idle : cycleJudged s = false →
      (if endsVoid s.params.c s.count then formLimit s else judgeCycle (formLimit s)) = formLimit s := fun hj => by
    split
    · rfl
    · next hv =>
      refine judgeCycle_of_not_holding _ ?_
      unfold cycleJudged at hj
      rw [Bool.eq_false_iff.2 hv] at hj
      exact hj
  unfold cycleClosed
  cases hj : cycleJudged s with
  | false =>
    rw [idle hj]
    have hm : cycleMissed s = false := by unfold cycleMissed; rw [hj]; rfl
    rw [hm, missesCounted_false]
    exact ⟨rfl, rfl, fun f => by simp [formLimit, flagSet]⟩
  | true =>
    unfold cycleJudged at hj
    obtain ⟨hv, hh⟩ := Bool.and_eq_true_iff.1 hj
    have hm : cycleMissed s = !s.chan.accepted := by unfold cycleMissed cycleJudged; rw [hj]; rfl
    have hjudged := judged_judgeCycle (formLimit s) hh rfl
    rw [if_neg (by simpa using hv), hm, if_pos rfl]
    obtain ⟨hchan, hlink, hflags⟩ := hjudged
    have hsilent : (judgeCycle (formLimit s)).chan.silent = (counted (formLimit s)).chan.silent := by rw [hchan, counted_chan]
    refine ⟨congrArg (fun c : Channel => { c with accepted := false, cycleDue := false }) hchan, ?_, fun f => ?_⟩
    · rw [hsilent]
      exact hlink.trans (linkJudged_limit _ _ _ _)
    · rw [← hlink] at hflags
      exact hflags f

end

/-- What a cycle end leaves apart from the message that it forms. -/
theorem endCycle_parts (s : State) : (endCycle s).link = (cycleClosed s).link ∧
    (endCycle s).chan = { (cycleClosed s).chan with toSend := (endCycle s).chan.toSend, echo := (endCycle s).chan.echo } ∧
    (endCycle s).host.flags = (cycleClosed s).host.flags := by
  rw [endCycle_eq]
  split
  · exact ⟨rfl, rfl, rfl⟩
  · have ho := formMessage_only (cycleClosed s)
    exact ⟨ho.link, formMessage_chan, ho.flags⟩

theorem cycleClosed_sending (s : State) : (cycleClosed s).chan.toSend = s.chan.toSend ∧ (cycleClosed s).chan.echo = s.chan.echo := by
  rw [(cycleClosed_parts s).1]
  exact ⟨rfl, rfl⟩

/-- The message noted is answered at a cycle end where a reply is formed (R109). -/
theorem endCycle_echo (s : State) : (endCycle s).chan.echo =
    if (endCycle s).link.expiryDue = true ∨ beginsVoid s.params.c s.count = true ∨ s.role = .truck ∨
      ((endCycle s).link.state ≠ .syncing ∧ (endCycle s).link.state ≠ .carrying ∧ (endCycle s).link.state ≠ .holdover) then
      s.chan.echo else none := by
  have ho := cycleClosed_only s
  rw [(endCycle_parts s).1, endCycle_eq]
  cases he : (cycleClosed s).link.expiryDue with
  | true => rw [if_pos rfl, if_pos (.inl rfl), (cycleClosed_sending s).2]
  | false =>
    rw [if_neg Bool.false_ne_true, formMessage_echo, ho.params, ho.count, ho.role, (cycleClosed_sending s).2]
    simp only [Bool.false_eq_true, false_or]

theorem endCycle_orders (s : State) : (endCycle s).orders =
    if (endCycle s).link.expiryDue = false ∧ beginsVoid s.params.c s.count = false ∧ s.role = .truck ∧
      (endCycle s).link.state ≠ .standby then mapTransfers (fun x => ⟨x.opened, true, x.sentNow⟩) s.orders else s.orders := by
  have ho := cycleClosed_only s
  rw [(endCycle_parts s).1, endCycle_eq]
  cases he : (cycleClosed s).link.expiryDue with
  | true => rw [if_pos rfl, if_neg (by simp), ho.orders]
  | false =>
    rw [if_neg Bool.false_ne_true, formMessage_orders_eq, ho.params, ho.count, ho.role, ho.orders]
    simp only [true_and]

/-- That a message is formed after a move's drops changes none of what they drop and keep. -/
theorem dropped_steeringFormed {s u : State} (h : Dropped s u) : Dropped s (steeringFormed u) := by
  obtain ⟨h1, h2, h3, h4, h5, h6, h7, h8, h9⟩ := h
  have hfull : u.orders.fullSync = none := congrArg Orders.fullSync h6
  refine ⟨h1, h2, h3, h4, h5, ?_, ?_, h8, ?_⟩
  · have hmapped : (mapTransfers Transfer.sending u.orders).fullSync = u.orders.fullSync := by simp [mapTransfers, hfull]
    exact (congrArg (fun f => { u.orders with commit := none, fullSync := f }) hmapped).trans h6
  · rw [← h7]
    unfold steeringFormed mapTransfers
    dsimp only
    rw [Option.map_map]
    rfl
  · exact congrArg (fun v : State => { v with
      orders := mapTransfers Transfer.sending u.orders
      chan := { u.chan with
        toSend := [firstHalf (steeringBytes (steeringCarried u)), secondHalf (steeringBytes (steeringCarried u))] } }) h9

/-- The message formed at the expiry of holdover comes after the drops, which leave a mast end nothing to answer. -/
theorem expireHoldover_cases (s : State) : expireHoldover s = moveToCalling s ∨
    (s.role = .truck ∧ beginsVoid s.params.c s.count = false ∧ expireHoldover s = steeringFormed (moveToCalling s)) := by
  have ho := moveToCalling_only s
  have hecho : (moveToCalling s).chan.echo = none := by
    obtain ⟨-, -, hchan, -⟩ := dropAll_fields s
    rw [moveToCalling_chan, hchan]
    rfl
  unfold expireHoldover
  cases hv : beginsVoid s.params.c s.count with
  | true =>
    rw [← ho.params, ← ho.count] at hv
    exact .inl (formMessage_of_void hv)
  | false =>
    rw [← ho.params, ← ho.count] at hv
    cases hr : s.role with
    | mast => exact .inl (formMessage_of_unheard (ho.role.trans hr) hecho)
    | truck =>
      have hl : (moveToCalling s).link.state ≠ .standby := by rw [calling_eq]; simp [calling]
      exact .inr ⟨rfl, rfl, formMessage_of_truck hv (ho.role.trans hr) hl⟩

theorem dropped_expireHoldover (s : State) : Dropped s (expireHoldover s) := by
  have hm := (moved_calling s).dropped
  rcases expireHoldover_cases s with h | ⟨-, -, h⟩
  · rw [h]; exact hm
  · rw [h]; exact dropped_steeringFormed hm

/-- The commit that a move keeps, noted with a steering message formed after it (R131, R152). -/
theorem expireHoldover_commit {s : State} (hr : s.role = .truck) : (expireHoldover s).orders.commit = if ordered s then
    s.orders.commit.map (fun j => if beginsVoid s.params.c s.count then j
      else { j with transfer := ⟨j.transfer.opened, true, j.transfer.sentNow⟩ }) else none := by
  have ho := moveToCalling_only s
  have hl : (moveToCalling s).link.state ≠ .standby := by rw [calling_eq]; simp [calling]
  obtain ⟨-, hcommit⟩ := (moved_calling s).kept
  have hmap : (expireHoldover s).orders.commit = if beginsVoid s.params.c s.count = false then
      (moveToCalling s).orders.commit.map (fun j => { j with transfer := ⟨j.transfer.opened, true, j.transfer.sentNow⟩ })
      else (moveToCalling s).orders.commit := by
    unfold expireHoldover
    rw [formMessage_orders_eq, ho.params, ho.count, ho.role]
    by_cases hv : beginsVoid s.params.c s.count = false
    · rw [if_pos ⟨hv, hr, hl⟩, if_pos hv]
      rfl
    · rw [if_neg fun h => hv h.1, if_neg hv]
  rw [hmap, hcommit]
  cases ordered s <;> cases beginsVoid s.params.c s.count <;> simp

/-- Settles O48: the judgement of the cycle that ends, then the message of the cycle that begins, before which holdover may
expire. -/
theorem cycleEndsJudged : Obligations.CycleEndsJudged := by
  intro s hs
  have hcycle : exec .controlCycleEnd s = .next (judgeCycleEnd s) := running_of_runs hs _
  have hexpiry : exec .holdoverExpiry s = .next (judgeHoldover s) := running_of_runs hs _
  rw [hcycle, hexpiry]
  refine ⟨fun hno => ?_, fun hno => ?_, fun hdue => ⟨endCycle s, ?_, ?_⟩, fun hdue => ⟨expireHoldover s, ?_, ?_⟩⟩
  · unfold judgeCycleEnd
    rw [hno]
    rfl
  · unfold judgeHoldover
    rw [hno]
    rfl
  · unfold judgeCycleEnd
    rw [if_pos hdue]
  · obtain ⟨hlink, hchan, hflags⟩ := endCycle_parts s
    obtain ⟨hclosedChan, hclosedLink, hclosedFlags⟩ := cycleClosed_parts s
    have hwritten : (endCycle s).chan = { missesCounted (cycleMissed s) s.params.missLimit s.chan with
        accepted := false, cycleDue := false
        toSend := (endCycle s).chan.toSend, echo := (endCycle s).chan.echo } := by
      rw [hclosedChan] at hchan
      exact hchan
    have hsilent := congrArg Channel.silent hchan
    have hmisses := congrArg Channel.missCount hwritten
    have hsilence := congrArg Channel.silent hwritten
    have haccepted := congrArg Channel.accepted hwritten
    have hdone := congrArg Channel.cycleDue hwritten
    have hflag : ∀ f, flagSet f (endCycle s) =
        (flagSet f s || (decide ((endCycle s).link.state ≠ s.link.state) && decide (f = .link))) := fun f => by
      rw [flagSet_congr hflags, hclosedFlags, hlink]
    have ho := cycleClosed_only s
    have hkept : (endCycle s).chan = { s.chan with
        missCount := (endCycle s).chan.missCount, silent := (endCycle s).chan.silent, accepted := false, cycleDue := false
        toSend := (endCycle s).chan.toSend, echo := (endCycle s).chan.echo } := by
      rw [hmisses, hsilence]
      exact hwritten
    refine ⟨hmisses, ?_, ?_, haccepted, hdone, fun he => ?_, fun he => ?_, endCycle_echo s, ?_, ?_, endCycle_orders s, ?_⟩
    · rw [hmisses]
      exact hsilence
    · rw [hlink, hsilent]
      exact hclosedLink
    · rw [hlink] at he
      rw [endCycle_eq, if_neg (by simp [he])]
      exact messageFormed_formMessage ho.role ho.params ho.count (cycleClosed_sending s).1 fun _ => (cycleClosed_sending s).2
    · rw [hlink] at he
      rw [endCycle_eq, if_pos he]
      exact (cycleClosed_sending s).1
    · rw [hflag]
      simp
    · refine raisesOnly_of_formula hflag fun f hf => ?_
      rw [of_decide_eq_true (Bool.and_eq_true_iff.1 hf).2]
      decide
    · have hframe := (endCycle_only s).eq_merge
      exact hframe.trans (congrArg (fun c : Channel => { s with
        link := (endCycle s).link, orders := (endCycle s).orders, chan := c
        host := { s.host with flags := (endCycle s).host.flags } }) hkept)
  · unfold judgeHoldover
    rw [if_pos hdue]
  · have hm := moved_calling s
    have ho := formMessage_only (moveToCalling s)
    have hmove := moveToCalling_only s
    refine ⟨dropped_expireHoldover s, ?_, ?_, ?_, ?_, ?_, fun hr => ?_, fun hr => ⟨?_, expireHoldover_commit hr⟩⟩
    · exact ho.link.trans (calling_eq s)
    · exact ho.counting.trans hm.counting
    · exact (ho .held (by decide) : (formMessage (moveToCalling s)).host.held = _).trans hm.held
    · refine (flagSet_congr ho.flags _).trans (hm.link.trans ?_)
      simp [eq_comm]
    · exact raisesOnly_trans hm.flags (raisesOnly_of_flags ho.flags)
    · rcases expireHoldover_cases s with h | ⟨ht, -, -⟩
      · rw [h]; exact hm.kept
      · rw [hr] at ht; cases ht
    · exact messageFormed_formMessage hmove.role hmove.params hmove.count hm.kept.1 fun hr' => by rw [hr] at hr'; cases hr'

end Sys2Proof.Cycles
end

section
/-! Mast replies (chapters 5 and 7): what acceptance does to the link, and what the truck end reads from a reply. -/

-- One declaration after another: side by side, the proofs of the text need more memory than its check allows.
set_option Elab.async false

namespace Sys2Proof.Hearing

open Sys2Proof Sys2Proof.Machine Sys2Proof.Claims Sys2Proof.Frame Sys2Proof.Slots Sys2Proof.RolePromise
  Sys2Proof.LinkPromise Sys2Proof.Ordering Sys2Proof.Linking

/-! ### What acceptance does to the link (R122, R129) -/

section
variable (s : State)

theorem originState_eq (o : Option Origin) : originState o = if o = some .syncing then .syncing else .carrying := by
  cases o with
  | none => rfl
  | some x => cases x <;> rfl

theorem linkHears_of_calling (h : s.link.state = .calling) : linkHears s = moveToSyncing s := by
  unfold linkHears
  rw [h]

theorem linkHears_of_holdover (h : s.link.state = .holdover) : linkHears s = returnFromHoldover s := by
  unfold linkHears
  rw [h]

theorem linkHears_of_other (hc : s.link.state ≠ .calling) (hh : s.link.state ≠ .holdover) : linkHears s = s := by
  unfold linkHears
  split
  · next h => exact absurd h hc
  · next h => exact absurd h hh
  · rfl

/-- A message that is heard moves a link out of CALLING and HOLDOVER, with LINK set at the change (R133). -/
theorem linkHears_parts : (linkHears s).link = linkHearing s.link ∧ ∀ f, flagSet f (linkHears s) =
    (flagSet f s || (decide ((linkHearing s.link).state ≠ s.link.state) && decide (f = .link))) := by
  by_cases hc : s.link.state = .calling
  · have hnew : linkHearing s.link = { s.link with state := .syncing, phase := none, attempt := 0, timer := none } := by
      unfold linkHearing; rw [hc]
    rw [linkHears_of_calling s hc, hnew]
    refine ⟨?_, fun f => setLink_flags .syncing s f⟩
    unfold moveToSyncing stopSchedule
    dsimp only
    rw [setLink_link]
  · by_cases hh : s.link.state = .holdover
    · have hnew : linkHearing s.link = { s.link with
          state := originState s.link.origin, origin := none, holdCount := 0, expiryDue := false } := by
        unfold linkHearing; rw [hh, originState_eq]
      rw [linkHears_of_holdover s hh, hnew]
      refine ⟨?_, fun f => setLink_flags (originState s.link.origin) s f⟩
      unfold returnFromHoldover
      dsimp only
      rw [setLink_link]
    · have hnew : linkHearing s.link = s.link := by
        unfold linkHearing
        split
        · next h => exact absurd h hc
        · next h => exact absurd h hh
        · rfl
      rw [linkHears_of_other s hc hh, hnew]
      exact ⟨rfl, fun f => by simp⟩

end

/-! ### What the truck end reads from a reply (R124, R150, R152, R154) -/

/-- A SYNCING decision is made at this reply (R124). -/
def decides (s : State) : Bool := decide (s.link.state = .syncing ∧ s.orders.decision = none ∧ s.orders.pending = none ∧
  s.orders.fullSync = none ∧ ordered s = false)

/-- The reply is judged for mismatch (R150). -/
def counts (s : State) : Bool :=
  decide (s.link.state = .carrying ∧ s.orders.pending = none ∧ s.orders.fullSync = none ∧ ordered s = false)

/-- The reply tells of another stamp or generation than this end's (R150). -/
def mismatched (m : Reply) (s : State) : Bool := decide (m.stamp ≠ s.orders.stamp ∨ m.generation ≠ s.table.generation)

/-- The reply marks a resync (R150). -/
def resyncs (m : Reply) (s : State) : Bool := counts s && mismatched m s && decide (1 ≤ s.orders.mismatchCount)

/-- The ends hold the same generation. -/
def equal (m : Reply) (s : State) : Bool := decide (m.generation = s.table.generation)

/-- The orders of the truck end after a reply. -/
def ordersRead (m : Reply) (s : State) : Orders :=
  { s.orders with
    decision := if decides s then some (if equal m s then .freshOrder else .fullSync) else s.orders.decision
    fullSync := if decides s && !equal m s then some ⟨s.table.generation, recordsOf s.table.slots, ⟨false, false, false⟩⟩
      else s.orders.fullSync.map fun f => { f with transfer := f.transfer.hears m }
    commit := if resyncs m s && !equal m s then none else s.orders.commit.map (commitHears m)
    mismatchCount := if counts s then (if mismatched m s && decide (s.orders.mismatchCount = 0) then 1 else 0)
      else s.orders.mismatchCount
    resync := if resyncs m s then some (if equal m s then .freshOrder else .fullSync)
      else if decides s && !equal m s && decide (s.orders.resync = some .fullSync) then none else s.orders.resync }

section
variable {m : Reply} {s : State}

/-- A reply makes no commit ORDERED, and leaves an ORDERED one so (R154). -/
theorem phaseAfter_ordered (complete : Bool) (code : Nat) (p : CommitPhase) (e : Count) (v : Bool) :
    phaseAfter complete code p = .ordered e v ↔ p = .ordered e v := by
  rcases p with w | (_ | g) | ⟨e', v'⟩
  · unfold phaseAfter
    split_ifs <;> simp
  · unfold phaseAfter
    split_ifs <;> simp
  · rfl
  · rfl

theorem commitOrdered_iff (s : State) : commitOrdered s = true ↔
    ∃ (j : CommitJob) (e : Count) (v : Bool), s.orders.commit = some j ∧ j.phase = .ordered e v := by
  unfold commitOrdered
  cases s.orders.commit with
  | none => simp
  | some j =>
    cases hp : j.phase with
    | ordered e v => exact ⟨fun _ => ⟨j, e, v, rfl, hp⟩, fun _ => by simp [hp]⟩
    | transferring w => simp [hp]
    | armed t => simp [hp]

theorem commitOrdered_transfersHear :
    commitOrdered { s with orders := transfersHear m s.orders } = commitOrdered s := by
  rw [Bool.eq_iff_iff, commitOrdered_iff, commitOrdered_iff]
  have hmap : (transfersHear m s.orders).commit = s.orders.commit.map (commitHears m) := rfl
  constructor
  · rintro ⟨j, e, v, hj, hp⟩
    obtain ⟨i, hi, rfl⟩ := Option.map_eq_some_iff.1 (hmap ▸ hj)
    exact ⟨i, e, v, hi, (phaseAfter_ordered _ _ _ _ _).1 hp⟩
  · rintro ⟨j, e, v, hj, hp⟩
    exact ⟨commitHears m j, e, v, by rw [hmap, hj]; rfl, (phaseAfter_ordered _ _ _ _ _).2 hp⟩

theorem decideSyncing_of_not (h : decides s = false) : decideSyncing m s = s :=
  if_neg (of_decide_eq_false h)

theorem decideSyncing_of_decides (h : decides s = true) : decideSyncing m s = if m.generation = s.table.generation then
    { s with orders := { s.orders with decision := some .freshOrder } }
    else startFullSync { s with orders := { s.orders with decision := some .fullSync } } :=
  if_pos (of_decide_eq_true h)

theorem counts_of_decides (h : decides s = true) : counts s = false := by
  obtain ⟨hs, -⟩ := of_decide_eq_true h
  unfold counts
  rw [hs]
  simp

/-- The reply has opened transfers and judged the commit's stage (R152, R154). -/
def transfersHeard (m : Reply) (s : State) : State := { s with orders := transfersHear m s.orders }

theorem counts_transfersHeard : counts (transfersHeard m s) = counts s := by
  have hc : ordered (transfersHeard m s) = ordered s := commitOrdered_transfersHear
  have hf : (transfersHeard m s).orders.fullSync = none ↔ s.orders.fullSync = none := Option.map_eq_none_iff
  unfold counts
  rw [decide_eq_decide, hc, hf]
  rfl

theorem judgeMismatch_of_not (h : counts s = false) : judgeMismatch m s = s := if_neg (of_decide_eq_false h)

theorem judgeMismatch_of_counts (h : counts s = true) : judgeMismatch m s =
    if mismatched m s then
      if 1 ≤ s.orders.mismatchCount then markResync m s
      else { s with orders := { s.orders with mismatchCount := s.orders.mismatchCount + 1 } }
    else { s with orders := { s.orders with mismatchCount := 0 } } := by
  unfold mismatched
  simp only [decide_eq_true_eq]
  exact if_pos (of_decide_eq_true h)

theorem readReply_eq (m : Reply) (s : State) : readReply m s = judgeMismatch m (transfersHeard m (decideSyncing m s)) := rfl

/-- A resync with equal generations is by fresh order (R150). -/
theorem markResync_of_equal (h : m.generation = s.table.generation) : markResync m s = raise .planMismatch
    { s with orders := { s.orders with mismatchCount := 0, resync := some .freshOrder } } := by
  unfold markResync
  exact if_pos h

/-- A resync with different generations is by full sync, and abandons the commit (R150, R158). -/
theorem markResync_of_not_equal (h : m.generation ≠ s.table.generation) : markResync m s =
    { abandonCommit (raise .planMismatch s) with
      orders := { (abandonCommit (raise .planMismatch s)).orders with mismatchCount := 0, resync := some .fullSync } } := by
  unfold markResync
  exact if_neg h

theorem not_ordered_of_counts (h : counts s = true) : ordered s = false := (of_decide_eq_true h).2.2.2

/-- What a reply leaves of the orders, where a SYNCING decision is made. -/
theorem readReply_of_decides (h : decides s = true) :
    (readReply m s).orders = ordersRead m s ∧ (readReply m s).host.flags = s.host.flags := by
  have hnot : resyncs m s = false := by unfold resyncs; rw [counts_of_decides h]; rfl
  obtain ⟨hs, hd, hp, hf, ho⟩ := of_decide_eq_true h
  have hlink : (transfersHeard m (decideSyncing m s)).link = s.link := (decideSyncing_only s m).link
  have hc : counts (transfersHeard m (decideSyncing m s)) = false := by
    unfold counts
    rw [hlink, hs]
    simp
  rw [readReply_eq, judgeMismatch_of_not hc]
  unfold transfersHeard
  rw [decideSyncing_of_decides h]
  unfold ordersRead equal
  rw [h, hnot, counts_of_decides h, hf]
  by_cases he : m.generation = s.table.generation
  · rw [if_pos he]
    simp [he, transfersHear, hf]
  · rw [if_neg he]
    simp [he, transfersHear, startFullSync, Transfer.hears, Transfer.fresh]

theorem mismatched_transfersHeard : mismatched m (transfersHeard m s) = mismatched m s := rfl

/-- The commit that a reply leaves where no resync abandons one. -/
theorem ordersRead_of_unmarked (hd : decides s = false) (hr : resyncs m s = false) : ordersRead m s =
    { transfersHear m s.orders with mismatchCount := (if counts s then
        (if mismatched m s && decide (s.orders.mismatchCount = 0) then 1 else 0) else s.orders.mismatchCount) } := by
  unfold ordersRead
  rw [hd, hr]
  rfl

/-- What a reply leaves of the orders and of the flags, where it is judged for a mismatch (R150, R158). -/
theorem readReply_of_counts (hd : decides s = false) (hc : counts s = true) : (readReply m s).orders = ordersRead m s ∧
    ∀ f, flagSet f (readReply m s) = (flagSet f s || (resyncs m s && decide (f = .planMismatch)) ||
      ((resyncs m s && !equal m s && decide (s.orders.commit ≠ none)) && decide (f = .commitAbandoned))) := by
  have hflag : ∀ f, flagSet f (transfersHeard m s) = flagSet f s := fun f => rfl
  rw [readReply_eq, decideSyncing_of_not hd, judgeMismatch_of_counts (counts_transfersHeard.trans hc),
    mismatched_transfersHeard]
  have hcount : (transfersHeard m s).orders.mismatchCount = s.orders.mismatchCount := rfl
  rw [hcount]
  cases hm : mismatched m s with
  | false =>
    have hr : resyncs m s = false := by unfold resyncs; rw [hc, hm]; rfl
    rw [if_neg Bool.false_ne_true, ordersRead_of_unmarked hd hr, hc, hm, hr]
    exact ⟨rfl, fun f => by simp [transfersHeard, flagSet]⟩
  | true =>
    rw [if_pos rfl]
    by_cases hn : 1 ≤ s.orders.mismatchCount
    · have hr : resyncs m s = true := by unfold resyncs; rw [hc, hm, decide_eq_true hn]; rfl
      have hzero : s.orders.mismatchCount ≠ 0 := by omega
      rw [if_pos hn, hr]
      by_cases he : m.generation = s.table.generation
      · have heq : equal m s = true := decide_eq_true he
        rw [markResync_of_equal (s := transfersHeard m s) he, heq]
        refine ⟨?_, fun f => ?_⟩
        · simp [ordersRead, hd, hr, heq, hc, hzero, transfersHeard, transfersHear]
        · rw [flagSet_raise]
          simp [transfersHeard, flagSet]
      · have heq : equal m s = false := decide_eq_false he
        have hnot : ordered (transfersHeard m s) = false := commitOrdered_transfersHear.trans (not_ordered_of_counts hc)
        rw [markResync_of_not_equal (s := transfersHeard m s) he, heq]
        refine ⟨?_, fun f => ?_⟩
        · rw [abandonCommit_orders, raise_orders, commitKept_eq, hnot]
          simp [ordersRead, hd, hr, heq, hc, hzero, transfersHeard, transfersHear]
        · refine (flagSet_abandonCommit (raise .planMismatch (transfersHeard m s)) f).trans ?_
          have hsome : (transfersHeard m s).orders.commit.isSome = decide (s.orders.commit ≠ none) := by
            unfold transfersHeard transfersHear
            cases s.orders.commit <;> rfl
          rw [raise_orders, show ordered (raise .planMismatch (transfersHeard m s)) = false from hnot, hsome, flagSet_raise, hflag]
          simp
    · have hr : resyncs m s = false := by unfold resyncs; rw [decide_eq_false hn, Bool.and_false]
      have hzero : s.orders.mismatchCount = 0 := by omega
      rw [if_neg hn, ordersRead_of_unmarked hd hr, hc, hm, hr, hzero]
      exact ⟨rfl, fun f => by simp [transfersHeard, flagSet]⟩

/-- What a reply leaves of the orders and of the flags (R124, R150, R152, R154). -/
theorem readReply_parts (m : Reply) (s : State) : (readReply m s).orders = ordersRead m s ∧
    ∀ f, flagSet f (readReply m s) = (flagSet f s || (resyncs m s && decide (f = .planMismatch)) ||
      ((resyncs m s && !equal m s && decide (s.orders.commit ≠ none)) && decide (f = .commitAbandoned))) := by
  cases hd : decides s with
  | true =>
    obtain ⟨horders, hflags⟩ := readReply_of_decides (m := m) hd
    have hr : resyncs m s = false := by unfold resyncs; rw [counts_of_decides hd]; rfl
    exact ⟨horders, fun f => by rw [flagSet_congr hflags, hr]; simp⟩
  | false =>
    cases hc : counts s with
    | true => exact readReply_of_counts hd hc
    | false =>
      have hr : resyncs m s = false := by unfold resyncs; rw [hc]; rfl
      rw [readReply_eq, decideSyncing_of_not hd, judgeMismatch_of_not (counts_transfersHeard.trans hc),
        ordersRead_of_unmarked hd hr, hc, hr]
      exact ⟨rfl, fun f => by simp [transfersHeard, flagSet]⟩

end

theorem replyAcceptable_iff (m : Reply) (s : State) : replyAcceptable m s = true ↔ replyPasses m s := by
  simp [replyAcceptable, replyPasses, and_assoc]

theorem ordered_congr {s t : State} (h : t.orders = s.orders) : ordered t = ordered s := by
  unfold ordered
  rw [h]

/-- The commit job after a reply, phase by phase (R152, R154). -/
theorem commitHears_phase (m : Reply) (j : CommitJob) : (commitHears m j).phase =
    phaseAfter (stageComplete m (j.transfer.hears m) j.target .change j.total) j.code j.phase := by
  rw [← stageReported_eq]
  rfl

/-- The state that has noted a reply: its channel, link and flags (R107, R110, R114). -/
theorem replyNoted_parts (m : Reply) (s : State) :
    (replyNoted m s).chan = { s.chan with fromMast := some (m, s.count), missCount := 0, silent := false, accepted := true } ∧
    (replyNoted m s).link = linkHearing s.link ∧ ∀ f, flagSet f (replyNoted m s) =
      (flagSet f s || (decide ((linkHearing s.link).state ≠ s.link.state) && decide (f = .link))) := by
  unfold replyNoted
  refine ⟨(linkHears_only _).chan, (linkHears_parts _).1, (linkHears_parts _).2⟩

theorem unless_map_eq_none {α β : Type} (r : Bool) (c : Option α) (f : α → β) :
    (if r then none else c.map f) = none ↔ c = none ∨ r = true := by
  cases r <;> simp

theorem eq_of_unless_map {α β : Type} {r : Bool} {a : α} {b : β} {f : α → β}
    (h : (if r then none else (some a).map f) = some b) : b = f a := by
  cases r with
  | true => cases h
  | false => exact (Option.some_inj.1 h).symm

/-- Settles O50: an accepted reply is noted, and then read. -/
theorem mastRepliesRead : Obligations.MastRepliesRead := by
  intro s m hs
  have hexec : exec (.mastReply m) s = .next (chooseReply m s) := running_of_runs hs _
  rw [hexec]
  refine ⟨fun hno => ?_, fun hpass => ⟨readReply m (replyNoted m s), ?_, ?_⟩⟩
  · unfold chooseReply
    rw [if_neg fun h => hno ((replyAcceptable_iff m s).1 h)]
  · unfold chooseReply
    rw [if_pos ((replyAcceptable_iff m s).2 hpass), hearReply_eq]
  · obtain ⟨hchan, hlink, hnoted⟩ := replyNoted_parts m s
    have hwonly := replyNoted_only m s
    have htonly := readReply_only (replyNoted m s) m
    have hframe : Only [.chan, .link, .orders, .flags] s (readReply m (replyNoted m s)) := hwonly.andThen htonly
    obtain ⟨horders, hflags⟩ := readReply_parts m (replyNoted m s)
    have htlink : (readReply m (replyNoted m s)).link = linkHearing s.link := htonly.link.trans hlink
    generalize hw : replyNoted m s = w at *
    generalize ht : readReply m w = t at *
    have hdecides : decides w = decide (t.link.state = .syncing ∧ s.orders.decision = none ∧ s.orders.pending = none ∧
        s.orders.fullSync = none ∧ ordered s = false) := by
      unfold decides
      rw [ordered_congr hwonly.orders, hwonly.orders, hlink, htlink]
    have hcounts : counts w = decide (t.link.state = .carrying ∧ s.orders.pending = none ∧ s.orders.fullSync = none ∧
        ordered s = false) := by
      unfold counts
      rw [ordered_congr hwonly.orders, hwonly.orders, hlink, htlink]
    have hmismatched : mismatched m w = decide (m.stamp ≠ s.orders.stamp ∨ m.generation ≠ s.table.generation) := by
      unfold mismatched
      rw [hwonly.orders, hwonly.table]
    have hequal : equal m w = decide (m.generation = s.table.generation) := by
      unfold equal
      rw [hwonly.table]
    have hresyncs : resyncs m w = (counts w && mismatched m w && decide (1 ≤ s.orders.mismatchCount)) := by
      unfold resyncs
      rw [hwonly.orders]
    unfold ordersRead at horders
    rw [hwonly.orders, hwonly.table] at horders
    rw [hwonly.orders] at hflags
    rw [hresyncs, hcounts, hmismatched, hequal] at hflags horders
    rw [hdecides] at horders
    have hcommit := congrArg Orders.commit horders
    refine ⟨htonly.chan.trans hchan, htlink, ?_, ?_, hframe.eq_merge, ?_, congrArg Orders.decision horders,
      congrArg Orders.fullSync horders, congrArg Orders.mismatchCount horders, congrArg Orders.resync horders, ?_, ?_, ?_,
      fun j x hj hx => ?_⟩
    · rw [hflags, hnoted, htlink]
      simp
    · refine raisesOnly_trans (raisesOnly_of_formula hnoted fun f hf => ?_)
        (raisesOnly_of_formula (fun f => (hflags f).trans (Bool.or_assoc _ _ _)) fun f hf => ?_)
      · rw [of_decide_eq_true (Bool.and_eq_true_iff.1 hf).2]
        decide
      · rcases Bool.or_eq_true_iff.1 hf with hf | hf
        · rw [of_decide_eq_true (Bool.and_eq_true_iff.1 hf).2]
          decide
        · rw [of_decide_eq_true (Bool.and_eq_true_iff.1 hf).2]
          decide
    · rw [horders]
    · rw [hflags, hnoted]
      simp
    · rw [hflags, hnoted]
      simp
    · rw [hcommit]
      exact unless_map_eq_none _ _ _
    · rw [hj, hx] at hcommit
      obtain rfl := eq_of_unless_map hcommit.symm
      have hphase := commitHears_phase m j
      refine ⟨rfl, fun w hp => ?_, fun hp => ?_, fun g hp => ?_, fun e v hp => ?_⟩
      · rw [hphase, hp]
        rfl
      · rw [hphase, hp]
        rfl
      · rw [hphase, hp]
        rfl
      · rw [hphase, hp]
        rfl

end Sys2Proof.Hearing
end

section
/-! Steering messages (chapters 5 and 7): the tests of acceptance, the item, and the order heard, heard again, or taken at
once. -/

-- One declaration after another: side by side, the proofs of the text need more memory than its check allows.
set_option Elab.async false

namespace Sys2Proof.Steered

open Sys2Proof Sys2Proof.Machine Sys2Proof.Claims Sys2Proof.Frame Sys2Proof.Slots Sys2Proof.RolePromise
  Sys2Proof.LinkPromise Sys2Proof.Ordering Sys2Proof.Linking Sys2Proof.Hearing

/-! ### Acceptance and the state that notes the message (R100, R105, R107) -/

theorem timingListed_iff (c lead : Nat) : timingListed c lead = true ↔ 2 ≤ c ∧ c ≤ 64 ∧ 24 ≤ lead ∧ lead ≤ 4096 := by
  simp [timingListed, and_assoc]

theorem steeringAcceptable_iff (m : Steering) (s : State) : steeringAcceptable m (s.count - 1) s = true ↔ steeringPasses m s := by
  unfold steeringAcceptable steeringPasses cycleBegins cycleNumber
  simp only [Bool.and_eq_true, decide_eq_true_eq, timingListed_iff, and_assoc]
  cases s.link.state <;> simp [and_assoc]

section
variable (m : Steering) (s : State)

/-- The state that has noted a steering message: its channel, parameters, link and flags. -/
theorem steeringNoted_parts :
    (steeringNoted m s).chan = { s.chan with
      fromTruck := some (m, s.count), missCount := 0, silent := false, accepted := true
      cycleDue := (if s.link.state = .calling ∧ m.c ≠ s.params.c then decide (s.count.toNat % m.c = 0) else s.chan.cycleDue) } ∧
    (steeringNoted m s).params = (if s.link.state = .calling then { s.params with c := m.c, lead := m.lead } else s.params) ∧
    (steeringNoted m s).link = linkHearing s.link ∧ ∀ f, flagSet f (steeringNoted m s) =
      (flagSet f s || (decide ((linkHearing s.link).state ≠ s.link.state) && decide (f = .link))) := by
  obtain ⟨u, hu⟩ : ∃ u, takeTiming m { s with chan := { channelHears s.chan with fromTruck := some (m, s.count) } } = u :=
    ⟨_, rfl⟩
  have hlink : u.link = s.link := by rw [← hu]; exact (takeTiming_only _ m).link
  have hflags : u.host.flags = s.host.flags := by rw [← hu]; exact (takeTiming_only _ m).flags
  obtain ⟨hnew, hset⟩ := linkHears_parts u
  have hnoted : steeringNoted m s = linkHears u := by rw [← hu]; rfl
  rw [hnoted, (linkHears_only u).chan, (linkHears_only u).params, hnew, hlink]
  refine ⟨?_, ?_, rfl, fun f => ?_⟩
  · rw [← hu]
    unfold takeTiming
    by_cases hc : s.link.state = .calling
    · rw [if_pos hc]
      unfold setTiming
      by_cases hm : m.c = s.params.c
      · simp [hc, hm, channelHears]
      · simp [hc, hm, channelHears, cycleBegins]
    · rw [if_neg hc, if_neg fun h => hc h.1]
      rfl
  · rw [← hu]
    unfold takeTiming
    split <;> rfl
  · rw [hset, hlink, flagSet_congr hflags]

end

/-! ### The item (R17, R18) -/

theorem itemMalformed_eq (i : TransferItem) : itemMalformed i = malformed i := by
  obtain ⟨target, mode, index, total, edit⟩ := i
  rw [Bool.eq_iff_iff]
  cases mode with
  | change =>
    by_cases h0 : total = 0
    · simp [itemMalformed, malformed, h0]
    · cases edit <;> simp [itemMalformed, malformed, h0] <;> omega
  | full =>
    by_cases h0 : total = 0
    · cases edit <;> simp [itemMalformed, malformed, h0]
    · cases edit with
      | none =>
        simp [itemMalformed, malformed, h0]
        omega
      | some e =>
        have hedit : itemMalformed ⟨target, .full, index, total, some e⟩ =
            (!decide (total ≤ 64) || decide (total ≤ index) || !isAdd e) := by cases e <;> simp [itemMalformed, isAdd, h0]
        rw [hedit]
        have hpos : 0 < total := by omega
        simp [malformed, h0, hpos]

theorem appendItem_eq (i : TransferItem) (a : StageArea) : appendItem i a =
    if i.index = a.items.length then { a with items := a.items ++ i.edit.toList } else a := by
  unfold appendItem
  cases i.edit with
  | none => simp
  | some e => rfl

theorem judgeItem_eq (deadBand : Bool) (generation : Word16) (i : TransferItem) (a : StageArea) :
    judgeItem deadBand generation i a = if deadBand = true ∨ malformed i = true ∨ i.target = generation then a
      else appendItem i (if a.target = some i.target ∧ a.mode = i.mode ∧ a.total = i.total then a
        else ⟨some i.target, i.mode, i.total, []⟩) := by
  unfold judgeItem
  rw [itemMalformed_eq]
  by_cases hd : deadBand = true
  · rw [if_pos hd, if_pos (.inl hd)]
  · by_cases hm : malformed i = true
    · rw [if_neg hd, if_pos hm, if_pos (.inr (.inl hm))]
    · by_cases ht : i.target = generation
      · rw [if_neg hd, if_neg hm, if_pos ht, if_pos (.inr (.inr ht))]
      · rw [if_neg hd, if_neg hm, if_neg ht, ← apply_ite (appendItem i)]
        exact (if_neg fun h => h.elim hd fun h => h.elim hm ht).symm

theorem stageClears_iff (m : Steering) (s : State) : stageClears m s = true ↔ m.item = none ∧
    (∀ o, m.order = some o → some o.stamp.generation ≠ s.stage.target) ∧ m.link ≠ .holdover ∧ m.deadBand = false ∧
    m.paused = false ∧ s.prot.supply = .normal := by
  have horder : ((m.order.map fun o => o.stamp.generation) ≠ s.stage.target ∨ s.stage.target = none) ↔
      ∀ o, m.order = some o → some o.stamp.generation ≠ s.stage.target := by
    cases m.order with
    | none => cases s.stage.target <;> simp
    | some o => cases s.stage.target <;> simp
  unfold stageClears
  rw [← horder]
  simp [and_assoc]

/-- The stage area is judged by an item, or by its lack, as R17 and R18 have it. -/
theorem hearItem_eq (m : Steering) (s : State) : hearItem m s = { s with stage := stageHearing m s } := by
  unfold hearItem stageHearing
  cases hi : m.item with
  | some i =>
    dsimp only
    rw [judgeItem_eq, appendItem_eq]
    simp only [decide_eq_true_eq]
  | none =>
    dsimp only
    by_cases hc : stageClears m s = true
    · obtain ⟨-, ho, hl, hd, hp, hs⟩ := (stageClears_iff m s).1 hc
      rw [if_pos hc, if_pos ⟨hl, hd, hp, hs, ho⟩]
      rfl
    · have hno : ¬ (m.link ≠ .holdover ∧ m.deadBand = false ∧ m.paused = false ∧ s.prot.supply = .normal ∧
          ∀ o, m.order = some o → some o.stamp.generation ≠ s.stage.target) := by
        rintro ⟨hl, hd, hp, hs, ho⟩
        exact hc ((stageClears_iff m s).2 ⟨hi, ho, hl, hd, hp, hs⟩)
      rw [if_neg hc, if_neg hno]

/-! ### Plannability (R41, R145, R146) -/

section
variable (s : State)

theorem planSource_eq (o : OrderField) : planSource o s = heardSource o s.table.generation s.stage := by
  unfold planSource heardSource StageArea.complete
  dsimp only
  rw [successor_eq_after]
  cases o.commitMark with
  | false => simp
  | true =>
    by_cases ht : s.stage.target = some o.stamp.generation
    · simp only [ht, Option.isSome_some, Bool.true_and, decide_eq_true_eq, true_and, Bool.and_eq_true, if_true,
        decide_true, and_assoc, and_true]
    · simp [ht]

theorem judgePlannable_eq (o : OrderField) : judgePlannable o s = { s with
    orders := { s.orders with heard := some ⟨o, heardSource o s.table.generation s.stage⟩ }
    planner := plannerHearing o (heardSource o s.table.generation s.stage) s.table.slots s.stage s.count s.planner } := by
  unfold judgePlannable
  rw [planSource_eq]
  cases heardSource o s.table.generation s.stage with
  | none => rfl
  | some x =>
    have hnext : (if s.planner.run.isSome then none else s.planner.next) = if s.planner.run = none then s.planner.next else none := by
      cases s.planner.run <;> rfl
    unfold plannerHearing
    dsimp only
    rw [← hnext]
    cases x <;> rfl

/-- The planner after a heard order without a source has been judged again. -/
def plannerAgain (stage : StageArea) : Planner :=
  match s.orders.heard with
  | some h => if h.source = none then
      plannerHearing h.order (heardSource h.order s.table.generation stage) s.table.slots stage s.count s.planner
      else s.planner
  | none => s.planner

theorem rejudgeHeard_eq : rejudgeHeard s = { s with
    orders := { s.orders with heard := s.orders.heard.map (heardAgain s.table.generation s.stage) }
    planner := plannerAgain s s.stage } := by
  unfold rejudgeHeard plannerAgain
  cases hh : s.orders.heard with
  | none =>
    dsimp only
    rw [Option.map_none, ← hh]
  | some h =>
    dsimp only
    unfold heardAgain
    by_cases hs : h.source = none
    · rw [if_pos hs, if_pos hs, judgePlannable_eq, Option.map_some, if_pos hs]
    · rw [if_neg hs, if_neg hs, Option.map_some, if_neg hs, ← hh]

end

/-! ### The order of a message (R145, R147, R149) -/

/-- The message brings an order that is neither in force nor heard already (R145). -/
def Fresh (m : Steering) (orders : Orders) (o : OrderField) : Prop :=
  m.order = some o ∧ o.stamp ≠ orders.stamp ∧ (orders.heard.map fun h => h.order.stamp) ≠ some o.stamp

section
variable {m : Steering} {s : State}

/-- A heard order without a source is judged again, and without an order the stamps in force are compared (R145, R149). -/
def judgedAgain (m : Steering) (s : State) : State :=
  if m.order = none ∧ m.stamp ≠ s.orders.stamp ∧ s.orders.mismatch = false then
    raise .planMismatch { rejudgeHeard s with orders := { (rejudgeHeard s).orders with mismatch := true } }
  else rejudgeHeard s

theorem hearOrders_of_not_fresh (h : ∀ o, ¬ Fresh m s.orders o) : hearOrders m s = judgedAgain m s := by
  unfold hearOrders judgedAgain
  cases ho : m.order with
  | some o =>
    dsimp only
    rw [if_neg (c := some o = none ∧ _) (by simp)]
    by_cases h1 : o.stamp = s.orders.stamp
    · rw [if_pos h1]
    · rw [if_neg h1]
      by_cases h2 : (s.orders.heard.map fun h => h.order.stamp) = some o.stamp
      · rw [if_pos h2]
      · exact absurd ⟨ho, h1, h2⟩ (h o)
  | none =>
    dsimp only
    have hstamp : (rejudgeHeard s).orders.stamp = s.orders.stamp := by rw [rejudgeHeard_eq]
    have hmismatch : (rejudgeHeard s).orders.mismatch = s.orders.mismatch := by rw [rejudgeHeard_eq]
    rw [hstamp, hmismatch]
    simp only [true_and]

theorem hearOrders_of_fresh {o : OrderField} (h : Fresh m s.orders o) : hearOrders m s = hearNew o s := by
  obtain ⟨ho, h1, h2⟩ := h
  unfold hearOrders
  rw [ho]
  dsimp only
  rw [if_neg h1, if_neg h2]

theorem abandonRunOf_eq (h : Option HeardOrder) (s : State) :
    abandonRunOf h s = { s with planner := runAbandoned h s.planner } := by
  unfold abandonRunOf runAbandoned
  cases h with
  | none =>
    have hkept : (s.planner.run.filter fun r => decide ((none : Option HeardOrder).map (fun h => h.order.stamp) ≠ some r.stamp)) =
        s.planner.run := by cases s.planner.run <;> rfl
    rw [hkept]
  | some x =>
    cases hr : s.planner.run with
    | none =>
      dsimp only
      rw [Option.filter_none, ← hr]
    | some r =>
      dsimp only
      by_cases hs : r.stamp = x.order.stamp
      · rw [if_pos hs, Option.filter_some, if_neg (by simp [hs])]
      · rw [if_neg hs, Option.filter_some, if_pos (by simpa using Ne.symm hs), ← hr]

/-- The state in which a new order is heard, in place of any heard before it (R145). -/
def newHeard (o : OrderField) (s : State) : State := { s with
  orders := { s.orders with heard := some ⟨o, heardSource o s.table.generation s.stage⟩ }
  planner := runAbandoned s.orders.heard
    (plannerHearing o (heardSource o s.table.generation s.stage) s.table.slots s.stage s.count s.planner) }

theorem epochBehind_iff (epoch now : Count) : epochBehind epoch now = true ↔
    epoch = now ∨ 2 ^ 31 ≤ (epoch - now).toNat := by
  unfold epochBehind
  rw [Bool.or_eq_true, decide_eq_true_eq, decide_eq_true_eq]
  refine or_congr_left ?_
  constructor
  · intro h
    have hz : epoch - now = 0#32 := BitVec.eq_of_toNat_eq h
    exact BitVec.sub_eq_iff_eq_add.1 hz |>.trans (BitVec.zero_add now)
  · rintro rfl
    simp

theorem hearNew_eq (o : OrderField) (s : State) : hearNew o s =
    if epochBehind o.epoch s.count then takeAtMast ⟨o, heardSource o s.table.generation s.stage⟩ (newHeard o s)
    else newHeard o s := by
  have hheard : abandonRunOf s.orders.heard (judgePlannable o s) = newHeard o s := by
    rw [abandonRunOf_eq, judgePlannable_eq]
    rfl
  unfold hearNew
  rw [hheard]
  rfl

/-- A staged source has the order's generation for its target (R146). -/
theorem target_of_heardSource {o : OrderField} {g : Word16} {stage : StageArea}
    (h : heardSource o g stage = some .changeStage ∨ heardSource o g stage = some .fullStage) :
    stage.target = some o.stamp.generation := by
  unfold heardSource at h
  by_cases ht : stage.target = some o.stamp.generation
  · exact ht
  · simp only [ht, decide_false, Bool.false_and, Bool.and_false, Bool.false_eq_true, if_false] at h
    split at h <;> simp at h

end

/-! ### An accepted message -/

/-- The mast end once a message is noted and its item judged, before its order (R107). -/
def itemJudged (m : Steering) (s : State) : State := hearItem m (steeringNoted m s)

/-- What is known of that state: all but the message's marks, the link and the stage stand as before. -/
structure Noted (m : Steering) (s v : State) : Prop where
  frame : Only [.params, .chan, .link, .flags, .stage] s v
  link : v.link = linkHearing s.link
  stage : v.stage = stageHearing m s
  service : v.service = s.service
  flags : ∀ f, flagSet f v = (flagSet f s || (decide ((linkHearing s.link).state ≠ s.link.state) && decide (f = .link)))

theorem noted_itemJudged (m : Steering) (s : State) : Noted m s (itemJudged m s) := by
  have ho := steeringNoted_only m s
  have hi := hearItem_only (steeringNoted m s) m
  obtain ⟨-, -, hlink, hflags⟩ := steeringNoted_parts m s
  have hstage : stageHearing m (steeringNoted m s) = stageHearing m s := by
    unfold stageHearing
    rw [ho.stage, ho.prot, ho.table]
  have hservice : (steeringNoted m s).service = s.service := by rw [ho.eq_merge]; rfl
  unfold itemJudged
  refine ⟨(ho.mono).also (hi.mono (qs := [.params, .chan, .link, .flags, .stage])), hi.link.trans hlink, ?_, ?_, fun f => ?_⟩
  · rw [hearItem_eq, hstage]
  · rw [hearItem_eq]; exact hservice
  · rw [flagSet_congr hi.flags, hflags]

section
variable {m : Steering} {s v : State}

theorem judgedAgain_only (m : Steering) (s : State) : Only [.orders, .planner, .flags] s (judgedAgain m s) := by
  have hr : Only [.orders, .planner, .flags] s (rejudgeHeard s) := (rejudgeHeard_only s).mono
  exact .ite (fun _ => (hr.trans (.of_eq rfl)).also (raise_only _ _)) fun _ => hr

/-- A message without a new order: what it leaves of orders, planner and flags (R145, R149). -/
theorem judgedAgain_parts (m : Steering) (s : State) : (judgedAgain m s).orders = { s.orders with
      heard := s.orders.heard.map (heardAgain s.table.generation s.stage)
      mismatch := s.orders.mismatch || decide (m.order = none ∧ m.stamp ≠ s.orders.stamp) } ∧
    (judgedAgain m s).planner = plannerAgain s s.stage ∧
    ∀ f, flagSet f (judgedAgain m s) = (flagSet f s ||
      ((!s.orders.mismatch && decide (m.order = none ∧ m.stamp ≠ s.orders.stamp)) && decide (f = .planMismatch))) := by
  have hflags : ∀ f, flagSet f (rejudgeHeard s) = flagSet f s := fun f => flagSet_congr (rejudgeHeard_only s).flags f
  unfold judgedAgain
  by_cases hc : m.order = none ∧ m.stamp ≠ s.orders.stamp ∧ s.orders.mismatch = false
  · obtain ⟨h1, h2, h3⟩ := hc
    rw [if_pos ⟨h1, h2, h3⟩, h3, decide_eq_true (And.intro h1 h2), rejudgeHeard_eq]
    exact ⟨rfl, rfl, fun f => flagSet_raise _ _ _⟩
  · have hsame : (s.orders.mismatch || decide (m.order = none ∧ m.stamp ≠ s.orders.stamp)) = s.orders.mismatch ∧
        (!s.orders.mismatch && decide (m.order = none ∧ m.stamp ≠ s.orders.stamp)) = false := by
      cases hm : s.orders.mismatch with
      | true => exact ⟨rfl, rfl⟩
      | false =>
        have hno : ¬ (m.order = none ∧ m.stamp ≠ s.orders.stamp) := fun h => hc ⟨h.1, h.2, hm⟩
        rw [decide_eq_false hno]
        exact ⟨rfl, rfl⟩
    rw [if_neg hc, hsame.1, hsame.2]
    refine ⟨by rw [rejudgeHeard_eq], by rw [rejudgeHeard_eq], fun f => ?_⟩
    rw [hflags, Bool.false_and, Bool.or_false]

theorem newHeard_of_noted (hn : Noted m s v) (o : OrderField) : (newHeard o v).orders =
      { s.orders with heard := some ⟨o, heardSource o s.table.generation (stageHearing m s)⟩ } ∧
    (newHeard o v).planner = runAbandoned s.orders.heard (plannerHearing o
      (heardSource o s.table.generation (stageHearing m s)) s.table.slots (stageHearing m s) s.count s.planner) := by
  unfold newHeard
  rw [hn.frame.orders, hn.frame.table, hn.frame.planner, hn.frame.count, hn.stage]
  exact ⟨rfl, rfl⟩

end

theorem hearSteering_parts (m : Steering) (s : State) : hearSteering m s =
    { hearOrders m (itemJudged m s) with
      chan := { (hearOrders m (itemJudged m s)).chan with echo := some m.cycle } } := rfl

/-- The channel and parameters once a message is accepted (R100, R107, R114). -/
theorem hearSteering_chan (m : Steering) (s : State) : (hearSteering m s).chan = { s.chan with
      fromTruck := some (m, s.count), missCount := 0, silent := false, accepted := true, echo := some m.cycle
      cycleDue := (if s.link.state = .calling ∧ m.c ≠ s.params.c then decide (s.count.toNat % m.c = 0) else s.chan.cycleDue) } ∧
    (hearSteering m s).params = (if s.link.state = .calling then { s.params with c := m.c, lead := m.lead } else s.params) := by
  obtain ⟨hchan, hparams, -, -⟩ := steeringNoted_parts m s
  have ho := hearOrders_only (itemJudged m s) m
  have hi := hearItem_only (steeringNoted m s) m
  have hc : (hearOrders m (itemJudged m s)).chan = (steeringNoted m s).chan := ho.chan.trans hi.chan
  refine ⟨?_, ho.params.trans (hi.params.trans hparams)⟩
  rw [hearSteering_parts]
  dsimp only
  rw [hc, hchan]

/-! ### LINK, and an order taken at once -/

theorem link_moved_hearing (k : Link) : decide ((linkHearing k).state ≠ k.state) =
    decide (k.state = .calling ∨ (linkHearing k).state ≠ k.state) := by
  rw [decide_eq_decide]
  refine ⟨.inr, fun h => h.elim (fun hc => ?_) id⟩
  unfold linkHearing
  rw [hc]
  simp

/-- A link that hears a message and takes its order at once has moved where either moved it. -/
theorem link_moved_taking (k : Link) : (decide ((linkHearing k).state ≠ k.state) || decide ((linkHearing k).state = .syncing)) =
    decide (k.state = .calling ∨ (linkTaking (linkHearing k)).state ≠ k.state) := by
  obtain ⟨state, phase, attempt, timer, origin⟩ := k
  cases state with
  | holdover => rcases origin with _ | (_ | _) <;> rfl
  | standby | calling | syncing | carrying => rfl

section
variable {m : Steering} {s : State}

/-- A message without a new order. -/
theorem hearSteering_of_not_fresh (h : ∀ o, ¬ Fresh m s.orders o) : (hearSteering m s).link = linkHearing s.link ∧
    (hearSteering m s).stage = stageHearing m s ∧ (hearSteering m s).table = s.table ∧ (hearSteering m s).service = s.service ∧
    (hearSteering m s).orders = { s.orders with
      heard := s.orders.heard.map (heardAgain s.table.generation (stageHearing m s))
      mismatch := s.orders.mismatch || decide (m.order = none ∧ m.stamp ≠ s.orders.stamp) } ∧
    (hearSteering m s).planner = plannerAgain s (stageHearing m s) ∧
    ∀ f, flagSet f (hearSteering m s) =
      ((flagSet f s || (decide ((linkHearing s.link).state ≠ s.link.state) && decide (f = .link))) ||
      ((!s.orders.mismatch && decide (m.order = none ∧ m.stamp ≠ s.orders.stamp)) && decide (f = .planMismatch))) := by
  have hn := noted_itemJudged m s
  have hagain : hearOrders m (itemJudged m s) = judgedAgain m (itemJudged m s) :=
    hearOrders_of_not_fresh (by rw [hn.frame.orders]; exact h)
  have ho := judgedAgain_only m (itemJudged m s)
  obtain ⟨horders, hplanner, hflags⟩ := judgedAgain_parts m (itemJudged m s)
  have hservice : (judgedAgain m (itemJudged m s)).service = (itemJudged m s).service := by rw [ho.eq_merge]; rfl
  rw [hearSteering_parts, hagain]
  refine ⟨ho.link.trans hn.link, ho.stage.trans hn.stage, ho.table.trans hn.frame.table, hservice.trans hn.service, ?_, ?_,
    fun f => ?_⟩
  · dsimp only
    rw [horders, hn.frame.orders, hn.frame.table, hn.stage]
  · dsimp only
    rw [hplanner]
    unfold plannerAgain
    rw [hn.frame.orders, hn.frame.table, hn.frame.planner, hn.frame.count, hn.stage]
  · refine (hflags f).trans ?_
    rw [hn.flags, hn.frame.orders]

variable {o : OrderField} (h : Fresh m s.orders o)
include h

theorem hearOrders_itemJudged : hearOrders m (itemJudged m s) = hearNew o (itemJudged m s) :=
  hearOrders_of_fresh (by rw [(noted_itemJudged m s).frame.orders]; exact h)

/-- A new order whose epoch is ahead is heard (R145). -/
theorem hearSteering_of_ahead (ha : epochBehind o.epoch s.count = false) :
    hearSteering m s = { newHeard o (itemJudged m s) with
      chan := { (itemJudged m s).chan with echo := some m.cycle } } := by
  have hn := noted_itemJudged m s
  rw [hearSteering_parts, hearOrders_itemJudged h, hearNew_eq, hn.frame.count, ha]
  rfl

/-- A new order whose epoch is reached or passed is taken at once (R147). -/
theorem hearSteering_of_passed (ha : epochBehind o.epoch s.count = true) :
    ∃ c : Channel, hearSteering m s =
      { takeAtMast ⟨o, heardSource o s.table.generation (stageHearing m s)⟩ (newHeard o (itemJudged m s)) with chan := c } := by
  have hn := noted_itemJudged m s
  refine ⟨{ (hearOrders m (itemJudged m s)).chan with echo := some m.cycle }, ?_⟩
  rw [hearSteering_parts, hearOrders_itemJudged h, hearNew_eq, hn.frame.count, ha, if_pos rfl, hn.frame.table, hn.stage]

/-- What is left by a new order heard ahead of its epoch. -/
theorem hearSteering_ahead_parts (ha : epochBehind o.epoch s.count = false) : (hearSteering m s).link = linkHearing s.link ∧
    (hearSteering m s).stage = stageHearing m s ∧ (hearSteering m s).table = s.table ∧ (hearSteering m s).service = s.service ∧
    (hearSteering m s).orders =
      { s.orders with heard := some ⟨o, heardSource o s.table.generation (stageHearing m s)⟩ } ∧
    (hearSteering m s).planner = runAbandoned s.orders.heard (plannerHearing o
      (heardSource o s.table.generation (stageHearing m s)) s.table.slots (stageHearing m s) s.count s.planner) ∧
    ∀ f, flagSet f (hearSteering m s) =
      (flagSet f s || (decide ((linkHearing s.link).state ≠ s.link.state) && decide (f = .link))) := by
  have hn := noted_itemJudged m s
  obtain ⟨horders, hplanner⟩ := newHeard_of_noted hn o
  rw [hearSteering_of_ahead h ha]
  exact ⟨hn.link, hn.stage, hn.frame.table, hn.service, horders, hplanner, hn.flags⟩

/-- What is left by a new order taken at once. -/
theorem hearSteering_passed_parts (ha : epochBehind o.epoch s.count = true) :
    (hearSteering m s).link = linkTaking (linkHearing s.link) ∧
    (hearSteering m s).orders = { s.orders with stamp := o.stamp, view := some o.view, heard := none, mismatch := false } ∧
    (hearSteering m s).planner = plannerTaking o.stamp (runAbandoned s.orders.heard (plannerHearing o
      (heardSource o s.table.generation (stageHearing m s)) s.table.slots (stageHearing m s) s.count s.planner)) ∧
    flagSet .link (hearSteering m s) = (flagSet .link s ||
      decide (s.link.state = .calling ∨ (hearSteering m s).link.state ≠ s.link.state)) ∧
    RaisesOnly [.link, .counterSat] s (hearSteering m s) ∧
    (heardSource o s.table.generation (stageHearing m s) = none ∨
        heardSource o s.table.generation (stageHearing m s) = some .committed →
      (hearSteering m s).table = s.table ∧ (hearSteering m s).stage = stageHearing m s ∧
      (hearSteering m s).service = s.service ∧ RaisesOnly [.link] s (hearSteering m s)) ∧
    (heardSource o s.table.generation (stageHearing m s) = some .changeStage → (hearSteering m s).table =
        ⟨applyEdits .mast s.table.slots (stageHearing m s).items, o.stamp.generation⟩ ∧
      (hearSteering m s).stage = ⟨none, .change, 0, []⟩) ∧
    (heardSource o s.table.generation (stageHearing m s) = some .fullStage → (hearSteering m s).table =
        ⟨applyEdits .mast [] (stageHearing m s).items, o.stamp.generation⟩ ∧
      (hearSteering m s).stage = ⟨none, .change, 0, []⟩) := by
  have hn := noted_itemJudged m s
  obtain ⟨horders, hplanner⟩ := newHeard_of_noted hn o
  obtain ⟨c, hc⟩ := hearSteering_of_passed h ha
  rw [hc]
  clear hc
  obtain ⟨v, hv⟩ : ∃ v, newHeard o (itemJudged m s) = v := ⟨_, rfl⟩
  have hlink : v.link = linkHearing s.link := by rw [← hv]; exact hn.link
  have hstage : v.stage = stageHearing m s := by rw [← hv]; exact hn.stage
  have htable : v.table = s.table := by rw [← hv]; exact hn.frame.table
  have hservice : v.service = s.service := by rw [← hv]; exact hn.service
  have hflags : ∀ f, flagSet f v =
      (flagSet f s || (decide ((linkHearing s.link).state ≠ s.link.state) && decide (f = .link))) := hv ▸ hn.flags
  have hraise : RaisesOnly [.link] s v := raisesOnly_of_formula hflags fun f hf => by
    rw [of_decide_eq_true (Bool.and_eq_true_iff.1 hf).2]
    decide
  rw [hv] at horders hplanner ⊢
  clear hv
  generalize hsource : heardSource o s.table.generation (stageHearing m s) = source at *
  have htake : ∀ {fs : List Flag}, RaisesOnly fs s v → RaisesOnly fs v (applyStage source v) → Flag.link ∈ fs →
      RaisesOnly fs s (takeAtMast ⟨o, source⟩ v) := fun h1 h2 hl => raisesOnly_trans h1 (raisesOnly_takeAtMast _ _ h2 hl)
  have htarget : source = some .changeStage ∨ source = some .fullStage → v.stage.target = some o.stamp.generation :=
    fun hs => by rw [hstage]; exact target_of_heardSource (hsource ▸ hs)
  refine ⟨?_, ?_, ?_, ?_, ?_, fun hs => ?_, fun hs => ?_, fun hs => ?_⟩
  · exact (takeAtMast_link _ _).trans (by rw [hlink])
  · exact (takeAtMast_orders _ _).trans (by rw [horders])
  · exact (takeAtMast_planner _ _).trans (by rw [hplanner])
  · change flagSet .link (takeAtMast ⟨o, source⟩ v) = _
    rw [flagSet_takeAtMast, (raisesOnly_applyStage source v .link).2 (by decide), hflags, takeAtMast_link, hlink]
    simp only [decide_true, Bool.and_true, Bool.or_assoc, link_moved_taking]
  · exact htake (raisesOnly_mono hraise) (raisesOnly_mono (raisesOnly_applyStage source v)) (by decide)
  · have hkept := applyStage_of_committed hs v
    obtain ⟨h1, h2, h3⟩ := takeAtMast_of_unstaged ⟨o, source⟩ v hkept
    exact ⟨h1.trans htable, h2.trans hstage, h3.trans hservice,
      htake hraise (by rw [hkept]; exact raisesOnly_of_flags rfl) (by decide)⟩
  · have hg := htarget (.inl hs)
    subst hs
    change (takeAtMast ⟨o, some .changeStage⟩ v).table = _ ∧ (takeAtMast ⟨o, some .changeStage⟩ v).stage = _
    rw [takeAtMast_table, takeAtMast_stage, applyStage_change hg, ← hstage, ← htable]
    exact ⟨putTable_table _ _ _ _, rfl⟩
  · have hg := htarget (.inr hs)
    subst hs
    change (takeAtMast ⟨o, some .fullStage⟩ v).table = _ ∧ (takeAtMast ⟨o, some .fullStage⟩ v).stage = _
    rw [takeAtMast_table, takeAtMast_stage, applyStage_full hg, ← hstage]
    exact ⟨putTable_table _ _ _ _, rfl⟩

end

/-- Settles O49: an accepted message is noted and its item judged, and then its order is heard again, heard, or taken. -/
theorem steeringMessagesHeard : Obligations.SteeringMessagesHeard := by
  intro s m hs
  have hexec : exec (.steeringMessage m) s = .next (chooseSteering m (s.count - 1) s) := running_of_runs hs _
  rw [hexec]
  refine ⟨fun hno => ?_, fun hpass => ⟨hearSteering m s, ?_, ?_⟩⟩
  · unfold chooseSteering
    rw [if_neg fun h => hno ((steeringAcceptable_iff m s).1 h)]
  · unfold chooseSteering
    rw [if_pos ((steeringAcceptable_iff m s).2 hpass)]
  · obtain ⟨hchan, hparams⟩ := hearSteering_chan m s
    have hframe := (hearSteering_only s m).eq_merge
    have hsend := congrArg Channel.toSend hchan
    have hwaiting := congrArg Channel.waiting hchan
    have hmast := congrArg Channel.fromMast hchan
    have hflag : flagSet .link (hearSteering m s) = (flagSet .link s ||
        decide (s.link.state = .calling ∨ (hearSteering m s).link.state ≠ s.link.state)) := by
      by_cases hf : ∃ o, Fresh m s.orders o
      · obtain ⟨o, ho⟩ := hf
        cases ha : epochBehind o.epoch s.count with
        | true => exact (hearSteering_passed_parts ho ha).2.2.2.1
        | false =>
          obtain ⟨hlink, -, -, -, -, -, hflags⟩ := hearSteering_ahead_parts ho ha
          rw [hflags, hlink, link_moved_hearing]
          simp
      · obtain ⟨hlink, -, -, -, -, -, hflags⟩ := hearSteering_of_not_fresh (not_exists.1 hf)
        rw [hflags, hlink, link_moved_hearing]
        simp
    refine ⟨congrArg Channel.fromTruck hchan, congrArg Channel.missCount hchan, congrArg Channel.silent hchan,
      congrArg Channel.accepted hchan, congrArg Channel.echo hchan, hsend, hwaiting, hmast, congrArg Channel.cycleDue hchan, hparams, hframe, hflag,
      fun hno => ?_, fun o ho => ⟨fun h1 h2 => ?_, fun hpast => ?_⟩⟩
    · obtain ⟨hlink, hstage, htable, hservice, horders, hplanner, hflags⟩ := hearSteering_of_not_fresh hno
      refine ⟨hlink, hstage, htable, hservice, horders, ?_, ?_, ?_⟩
      · rw [hplanner]
        unfold plannerAgain
        cases s.orders.heard <;> rfl
      · rw [hflags]
        simp
      · refine raisesOnly_of_formula (fun f => (hflags f).trans (Bool.or_assoc _ _ _)) fun f hf => ?_
        rcases Bool.or_eq_true_iff.1 hf with hf | hf
        · rw [of_decide_eq_true (Bool.and_eq_true_iff.1 hf).2]
          decide
        · rw [of_decide_eq_true (Bool.and_eq_true_iff.1 hf).2]
          decide
    · have ha : epochBehind o.epoch s.count = false := by
        refine Bool.eq_false_iff.2 fun h => ?_
        rcases (epochBehind_iff _ _).1 h with h | h
        · rw [h, BitVec.sub_self] at h1
          exact absurd h1 (by decide)
        · omega
      obtain ⟨hlink, hstage, htable, hservice, horders, hplanner, hflags⟩ := hearSteering_ahead_parts ho ha
      refine ⟨hlink, hstage, htable, hservice, horders, hplanner, raisesOnly_of_formula hflags fun f hf => ?_⟩
      rw [of_decide_eq_true (Bool.and_eq_true_iff.1 hf).2]
      decide
    · obtain ⟨hlink, horders, hplanner, -, hrest⟩ := hearSteering_passed_parts ho ((epochBehind_iff _ _).2 hpast)
      exact ⟨hlink, horders, hplanner, hrest⟩

end Sys2Proof.Steered
end

section
/-! Cells (chapter 8): what an arriving cell does, and what a superframe delivers. -/

-- One declaration after another: side by side, the proofs of the text need more memory than its check allows.
set_option Elab.async false

namespace Sys2Proof.Cells

open Sys2Proof Sys2Proof.Machine Sys2Proof.Claims Sys2Proof.Frame Sys2Proof.Slots Sys2Proof.Ordering

/-! ### Slots written in place -/

section
variable {x y : Slot} {slots : List Slot}

theorem map_unless {n : Fin 64} (h : ∀ z ∈ slots, z.record.number ≠ n) :
    (slots.map fun z => if z.record.number = n then y else z) = slots :=
  (List.map_congr_left fun z hz => if_neg (h z hz)).trans (List.map_id' slots)

/-- Writing a LIVE slot leaves every other slot and the order of the table. -/
theorem putSlot_eq_map (h : Ascending slots) (hx : slotAt slots y.record.number = some x) :
    putSlot y slots = slots.map fun z => if z.record.number = y.record.number then y else z := by
  induction slots with
  | nil => cases hx
  | cons z zs ih =>
    obtain ⟨hz, hzs⟩ := ascending_cons.1 h
    unfold putSlot
    rw [List.map_cons]
    by_cases hn : z.record.number = y.record.number
    · have hne : ∀ w ∈ zs, w.record.number ≠ y.record.number := fun w hw he => absurd (hz w hw) (by rw [he, hn]; exact lt_irrefl _)
      rw [if_neg (by rw [hn]; exact lt_irrefl _), if_pos hn.symm, if_pos hn, map_unless hne]
    · have htail : slotAt zs y.record.number = some x := by
        unfold slotAt at hx ⊢
        rwa [List.find?_cons_of_neg (by simpa using hn)] at hx
      have hlt : z.record.number < y.record.number := by
        obtain ⟨hmem, hnum⟩ := mem_of_slotAt htail
        exact hnum ▸ hz x hmem
      rw [if_neg (not_lt.2 hlt.le), if_neg (Ne.symm hn), if_neg hn, ih hzs htail]

/-- Writing a slot of a table that is split there. -/
theorem putSlot_split {xs ys : List Slot} (h : Ascending (xs ++ x :: ys)) (hn : y.record.number = x.record.number) :
    putSlot y (xs ++ x :: ys) = xs ++ y :: ys := by
  have hx : slotAt (xs ++ x :: ys) y.record.number = some x := by
    rw [hn]
    exact slotAt_of_mem h (by simp)
  have hne : ∀ z ∈ xs ++ ys, z.record.number ≠ y.record.number := by
    unfold Ascending at h
    rw [List.map_append, List.map_cons, List.pairwise_append, List.pairwise_cons] at h
    obtain ⟨-, ⟨hafter, -⟩, hbefore⟩ := h
    intro z hz
    rw [hn]
    rcases List.mem_append.1 hz with hz | hz
    · exact (hbefore _ (List.mem_map_of_mem hz) _ List.mem_cons_self).ne
    · exact (hafter _ (List.mem_map_of_mem hz)).ne'
  rw [putSlot_eq_map h hx, List.map_append, List.map_cons, if_pos hn.symm,
    map_unless fun z hz => hne z (List.mem_append_left _ hz), map_unless fun z hz => hne z (List.mem_append_right _ hz)]

/-- What a map that keeps the numbers leaves of a number's slot. -/
theorem slotAt_map {f : Slot → Slot} (hf : ∀ z, (f z).record.number = z.record.number) (slots : List Slot) (n : Fin 64) :
    slotAt (slots.map f) n = (slotAt slots n).map f := by
  unfold slotAt
  rw [List.find?_map]
  congr 2
  funext z
  simp [hf]

/-- One slot has the number, so that a test of it is the test of that slot. -/
theorem any_eq_slotAt (h : Ascending slots) (n : Fin 64) (p : Slot → Bool) :
    (slots.any fun z => decide (n = z.record.number) && p z) = ((slotAt slots n).map p).getD false := by
  rw [Bool.eq_iff_iff, List.any_eq_true]
  constructor
  · rintro ⟨z, hz, hp⟩
    simp only [Bool.and_eq_true, decide_eq_true_eq] at hp
    obtain ⟨rfl, hp⟩ := hp
    rw [slotAt_of_mem h hz]
    exact hp
  · intro hp
    cases hx : slotAt slots n with
    | none => rw [hx] at hp; cases hp
    | some z =>
      rw [hx] at hp
      obtain ⟨hz, hn⟩ := mem_of_slotAt hx
      exact ⟨z, hz, by rw [hn, decide_eq_true rfl]; exact hp⟩

end

/-! ### An arriving cell (R161 to R166) -/

/-- The transmit side of a port at this end is the slot's (R4). -/
def Bound (role : Role) (port : Fin 32) (x : Slot) : Prop :=
  (role = .mast ∧ x.record.direction = .down ∧ x.record.mastPort = port) ∨
  (role = .truck ∧ x.record.direction = .up ∧ x.record.truckPort = port)

theorem bound_iff (role : Role) (port : Fin 32) (x : Slot) : Bound role port x ↔
    (decide (x.record.direction = sentDirection role) && decide (portAt role x.record = port)) = true := by
  unfold Bound
  rw [Bool.and_eq_true, decide_eq_true_eq, decide_eq_true_eq]
  cases role <;> simp [sentDirection, portAt]

section
variable {s : State} {port : Fin 32} {x : Slot}

theorem transmitSlot_eq_none (h : ∀ y ∈ s.table.slots, ¬ Bound s.role port y) :
    transmitSlot s.role s.table.slots port = none :=
  List.find?_eq_none.2 fun y hy => (bound_iff s.role port y).not.1 (h y hy)

theorem transmitSlot_eq_some {xs ys : List Slot} (hsplit : s.table.slots = xs ++ x :: ys) (hx : Bound s.role port x)
    (hxs : ∀ y ∈ xs, ¬ Bound s.role port y) : transmitSlot s.role s.table.slots port = some x := by
  unfold transmitSlot
  rw [hsplit, List.find?_append, List.find?_eq_none.2 fun y hy => (bound_iff s.role port y).not.1 (hxs y hy), Option.none_or]
  exact List.find?_cons_of_pos ((bound_iff s.role port x).1 hx)

end

theorem saturates_hit (old : Nat) : satHit Config.counterMax old 1 = decide (old = 4294967294) := by
  rw [Guarding.satHit_one, decide_eq_decide]
  unfold Config.counterMax
  omega

section
variable {s : State} {xs ys : List Slot} {x : Slot}

/-- A drop counts on its circuit's slot alone (R165). -/
theorem dropCell_table (ho : TableInOrder s) (hsplit : s.table.slots = xs ++ x :: ys) : (dropCell x s).table =
    { s.table with slots := xs ++ { x with counters := { x.counters with
      dropped := min 4294967295 (x.counters.dropped + 1) } } :: ys } := by
  have hslots : (dropCell x s).table.slots = _ := writeCounted_slots _ _ _
  rw [hsplit, putSlot_split (hsplit ▸ ho) (by rfl)] at hslots
  calc (dropCell x s).table = ⟨(dropCell x s).table.slots, s.table.generation⟩ := by
        rw [← (dropCell_only s x).generation]
    _ = _ := by rw [hslots]; rfl

theorem flagSet_dropCell (x : Slot) (s : State) (f : Flag) : flagSet f (dropCell x s) =
    (flagSet f s || (decide (x.counters.dropped = 4294967294) && decide (f = .counterSat))) := by
  rw [← saturates_hit]
  exact flagSet_raiseIf _ .counterSat f _

theorem flagSet_exhaustPool (s : State) (f : Flag) : flagSet f (exhaustPool s) =
    (flagSet f s || (!s.service.exhausted && decide (f = .poolFull))) := flagSet_raiseIf _ .poolFull f s

/-- What a drop leaves: the pool marked exhausted, with POOL_FULL at the first drop of an episode, or as it was. -/
theorem dropped_parts (ho : TableInOrder s) (hsplit : s.table.slots = xs ++ x :: ys) (full : Bool) {t : State}
    (ht : t = if full then exhaustPool (dropCell x s) else dropCell x s) :
    t.table = { s.table with slots := xs ++ { x with counters := { x.counters with
      dropped := min 4294967295 (x.counters.dropped + 1) } } :: ys } ∧
    t.service.exhausted = (s.service.exhausted || full) ∧
    ∀ f, flagSet f t = (flagSet f s || ((decide (x.counters.dropped = 4294967294) && decide (f = .counterSat)) ||
      ((full && !s.service.exhausted) && decide (f = .poolFull)))) := by
  have hdrop := dropCell_only s x
  cases full with
  | true =>
    obtain rfl : t = exhaustPool (dropCell x s) := ht
    refine ⟨(exhaustPool_only _).table.trans (dropCell_table ho hsplit), (Bool.or_true _).symm, fun f => ?_⟩
    rw [flagSet_exhaustPool, flagSet_dropCell, hdrop.exhausted, Bool.or_assoc, Bool.true_and]
  | false =>
    obtain rfl : t = dropCell x s := ht
    refine ⟨dropCell_table ho hsplit, hdrop.exhausted.trans (Bool.or_false _).symm, fun f => ?_⟩
    rw [flagSet_dropCell, Bool.false_and, Bool.false_and, Bool.or_false]

end

theorem flagSet_strayCell (s : State) (f : Flag) : flagSet f (strayCell s) =
    (flagSet f s || (decide (s.service.stray = 4294967294) && decide (f = .counterSat))) := by
  rw [← saturates_hit]
  exact flagSet_raiseIf _ .counterSat f _

theorem arriveCell_of_bound {s : State} {port : Fin 32} {cell : Cell} {xs ys : List Slot} {x : Slot}
    (hsplit : s.table.slots = xs ++ x :: ys) (hx : Bound s.role port x) (hxs : ∀ y ∈ xs, ¬ Bound s.role port y) :
    arriveCell port cell s = judgeCell x cell s := by
  unfold arriveCell
  rw [transmitSlot_eq_some hsplit hx hxs]

/-- A cell that is dropped exhausts the pool exactly where the pool's test is the one that drops it (R165, R166). -/
theorem judgeCell_of_drop {s : State} {x : Slot} {cell : Cell}
    (h : planInForce s = none ∨ queueLimit s.service.limits x.record.number ≤ x.queue.length ∨ 16384 ≤ occupancy s) :
    judgeCell x cell s = if (decide (planInForce s ≠ none) &&
        decide (¬ queueLimit s.service.limits x.record.number ≤ x.queue.length) && decide (16384 ≤ occupancy s)) = true then
      exhaustPool (dropCell x s) else dropCell x s := by
  unfold judgeCell
  by_cases h1 : planInForce s = none
  · rw [if_pos h1, if_neg (by simp [h1])]
  · by_cases h2 : queueLimit s.service.limits x.record.number ≤ x.queue.length
    · rw [if_neg h1, if_pos h2, if_neg (by simp [h2])]
    · have h3 : 16384 ≤ occupancy s := (h.resolve_left h1).resolve_left h2
      rw [if_neg h1, if_neg h2, if_pos (show Config.poolSize ≤ occupancy s from h3), if_pos (by simp [h1, h2, h3])]

/-- Settles O52: the tests of an arriving cell in their order. -/
theorem cellArrivalTests : Obligations.CellArrivalTests := by
  intro s port cell hs ho hlen
  have hexec : exec (.cellArrival port cell) s = .next (arriveCell port cell s) := by
    exact (running_of_runs hs _).trans (congrArg _ (if_pos hlen))
  rw [hexec]
  refine ⟨fun hno => ⟨strayCell s, ?_, ?_, ?_, ?_, (strayCell_only s).eq_merge⟩, fun xs ys x hsplit hx hxs => ⟨fun hplan hover hfull => ?_, fun hdrop => ?_⟩⟩
  · unfold arriveCell
    rw [transmitSlot_eq_none hno]
  · unfold strayCell
    rw [raiseIf_service]
    rfl
  · rw [flagSet_strayCell]
    simp
  · exact raisesOnly_of_formula (flagSet_strayCell s) fun f hf => by
      rw [of_decide_eq_true (Bool.and_eq_true_iff.1 hf).2]
      decide
  · rw [arriveCell_of_bound hsplit hx hxs]
    unfold judgeCell
    rw [if_neg hplan, if_neg hover, if_neg (show ¬ Config.poolSize ≤ occupancy s from hfull)]
    unfold writeSlot
    rw [hsplit, putSlot_split (hsplit ▸ ho) (by rfl)]
  · rw [arriveCell_of_bound hsplit hx hxs]
    refine ⟨judgeCell x cell s, rfl, ?_⟩
    obtain ⟨htable, hexhausted, hflags⟩ := dropped_parts ho hsplit _ (judgeCell_of_drop hdrop)
    refine ⟨htable, hexhausted, ?_, ?_, ?_, ((judgeCell_only s x cell).mono (qs := [.slots, .generation, .exhausted, .flags])).eq_merge⟩
    · rw [hflags, hexhausted]
      cases s.service.exhausted <;> simp
    · rw [hflags]
      simp
    · refine raisesOnly_of_formula hflags fun f hf => ?_
      rcases Bool.or_eq_true_iff.1 hf with hf | hf
      · rw [of_decide_eq_true (Bool.and_eq_true_iff.1 hf).2]
        decide
      · rw [of_decide_eq_true (Bool.and_eq_true_iff.1 hf).2]
        decide

end Sys2Proof.Cells
end

section
/-! Delivery (R169 to R171): what the circuits of the plan in force give in a superframe, entry by entry. -/

-- One declaration after another: side by side, the proofs of the text need more memory than its check allows.
set_option Elab.async false

namespace Sys2Proof.Delivery

open Sys2Proof Sys2Proof.Machine Sys2Proof.Claims Sys2Proof.Frame Sys2Proof.Slots Sys2Proof.Ordering Sys2Proof.Cells

/-! ### Positions -/

/-- The results of an entry are read off the lanes and the stamp in force alone. -/
theorem judgeEntry_eq (s : State) (e : Entry) : judgeEntry s e = results s e := by
  have hcopy : ∀ (r : SlotRun) (k : Nat), copyAt s r k = (s.handed.get r.lane).bind fun h =>
      if h.stamp = s.orders.stamp then (h.payload[r.first + k]?).join else none := fun r k => by
    unfold copyAt
    cases s.handed.get r.lane <;> rfl
  unfold judgeEntry results
  cases e.laneA with
  | none => rfl
  | some a =>
    dsimp only
    refine List.map_congr_left fun k _ => ?_
    rw [hcopy]
    congr 1
    cases e.laneB with
    | none => rfl
    | some b => exact hcopy b k

theorem results_congr {s t : State} (hh : t.handed = s.handed) (ho : t.orders = s.orders) (e : Entry) :
    results t e = results s e := by
  unfold results
  rw [hh, ho]

theorem isLost_eq (p : Position) : p.isLost = decide (p = .lost) := by cases p <;> simp [Position.isLost]

theorem countPositions_eq (ps : List Position) (x : Slot) : countPositions ps x = received ps x := by
  unfold countPositions received
  rw [show Position.isLost = fun p => decide (p = .lost) from funext isLost_eq]
  rfl

theorem saturates_advance (old n : Nat) : satHit Config.counterMax old n = saturates old (min 4294967295 (old + n)) := by
  unfold satHit saturates Config.counterMax
  congr 1
  rw [decide_eq_decide]
  omega

/-- The receive counters of a slot that its circuit's positions bring to saturation. -/
def receivedSaturates (ps : List Position) (x : Slot) : Bool :=
  saturates x.counters.delivered (received ps x).counters.delivered ||
    saturates x.counters.lost (received ps x).counters.lost ||
    saturates x.counters.rescued (received ps x).counters.rescued

theorem positionsSaturate_eq (ps : List Position) (x : Slot) : positionsSaturate ps x = receivedSaturates ps x := by
  unfold positionsSaturate receivedSaturates
  rw [saturates_advance, saturates_advance, saturates_advance, ← countPositions_eq]
  rfl

theorem cellsOut_eq (role : Role) (x : Slot) (ps : List Position) :
    ((ps.filterMap Position.cell).map fun c => (portAt role x.record, c)) = cellsOut role x ps := by
  cases role <;> rfl

/-! ### Entries that write their circuits' slots in turn -/

section
variable (act : Entry → Bool) (g : Entry → Slot → Slot) (sat : Entry → Slot → Bool)

/-- A slot after the entries of a list, each of which writes the slot of its circuit where it acts. -/
def writtenOf (es : List Entry) (x : Slot) : Slot :=
  ((es.find? fun e => decide (e.number = x.record.number) && act e).map fun e => g e x).getD x

/-- Some circuit's counter comes to saturation by an entry of the list that acts. -/
def writesSaturate (slots : List Slot) (es : List Entry) : Bool :=
  slots.any fun x => es.any fun e => decide (e.number = x.record.number) && act e && sat e x

/-- What the writes of a list of entries leave of slots and flags. -/
structure Writes (u t : State) (es : List Entry) : Prop where
  slots : t.table.slots = u.table.slots.map (writtenOf act g es)
  flags : ∀ f, flagSet f t = (flagSet f u || (writesSaturate act sat u.table.slots es && decide (f = .counterSat)))

end

section
variable {act : Entry → Bool} {g : Entry → Slot → Slot} {sat : Entry → Slot → Bool}
variable {u t : State} {es : List Entry} {e : Entry} {x : Slot}

theorem writes_nil (act : Entry → Bool) (g : Entry → Slot → Slot) (sat : Entry → Slot → Bool)
    (hslots : t.table.slots = u.table.slots) (hflags : t.host.flags = u.host.flags) : Writes act g sat u t [] := by
  refine ⟨hslots.trans (List.map_id' _).symm, fun f => ?_⟩
  rw [flagSet_congr hflags f]
  simp [writesSaturate]

theorem writtenOf_of_other (h : e.number ≠ x.record.number ∨ act e = false) :
    writtenOf act g (es ++ [e]) x = writtenOf act g es x := by
  have hno : ¬ (decide (e.number = x.record.number) && act e) = true := by
    rw [Bool.and_eq_true, decide_eq_true_eq]
    rintro ⟨hnumber, hact⟩
    rcases h with hne | hfalse
    · exact hne hnumber
    · exact Bool.false_ne_true (hfalse.symm.trans hact)
  unfold writtenOf
  rw [List.find?_append, List.find?_singleton, if_neg hno, Option.or_none]

theorem find_of_new (hnew : ∀ d ∈ es, d.number ≠ e.number) (h : e.number = x.record.number) :
    (es.find? fun d => decide (d.number = x.record.number) && act d) = none :=
  List.find?_eq_none.2 fun d hd => by
    have hne := hnew d hd
    rw [h] at hne
    simp [hne]

theorem writtenOf_of_new (hnew : ∀ d ∈ es, d.number ≠ e.number) (h : e.number = x.record.number) :
    writtenOf act g es x = x ∧ (act e = true → writtenOf act g (es ++ [e]) x = g e x) := by
  have hnone := find_of_new (act := act) hnew h
  unfold writtenOf
  refine ⟨by rw [hnone]; rfl, fun hact => ?_⟩
  rw [List.find?_append, hnone, List.find?_singleton, if_pos (by simp [h, hact])]
  rfl

theorem writtenOf_number (hg : ∀ e x, (g e x).record.number = x.record.number) (es : List Entry) (x : Slot) :
    (writtenOf act g es x).record.number = x.record.number := by
  unfold writtenOf
  cases es.find? fun e => decide (e.number = x.record.number) && act e with
  | none => rfl
  | some e => exact hg e x

theorem writesSaturate_append (ho : TableInOrder u) : writesSaturate act sat u.table.slots (es ++ [e]) =
    (writesSaturate act sat u.table.slots es || (act e && ((slotAt u.table.slots e.number).map (sat e)).getD false)) := by
  rw [← any_eq_slotAt ho]
  unfold writesSaturate
  simp only [List.any_append, List.any_cons, List.any_nil, Bool.or_false]
  rw [Bool.eq_iff_iff]
  simp only [Bool.or_eq_true, Bool.and_eq_true, List.any_eq_true, and_or_left, exists_or, decide_eq_true_eq]
  refine or_congr Iff.rfl ⟨fun ⟨x, hx, ⟨hn, ha⟩, hs⟩ => ⟨ha, x, hx, hn, hs⟩, fun ⟨ha, x, hx, hn, hs⟩ => ⟨x, hx, ⟨hn, ha⟩, hs⟩⟩

theorem ascending_map {f : Slot → Slot} (hf : ∀ z, (f z).record.number = z.record.number) {slots : List Slot}
    (h : Ascending slots) : Ascending (slots.map f) := by
  unfold Ascending at *
  rw [List.map_map]
  exact (List.map_congr_left fun z _ => (hf z).symm) ▸ h

/-- An entry finds its circuit's slot as it stood before those in front of it. -/
theorem Writes.slotAt_eq (h : Writes act g sat u t es) (hg : ∀ e x, (g e x).record.number = x.record.number)
    (hnew : ∀ d ∈ es, d.number ≠ e.number) : slotAt t.table.slots e.number = slotAt u.table.slots e.number := by
  rw [h.slots, slotAt_map (writtenOf_number hg es)]
  cases hx : slotAt u.table.slots e.number with
  | none => rfl
  | some x => exact congrArg some (writtenOf_of_new hnew (mem_of_slotAt hx).2.symm).1

/-- An entry whose circuit is not LIVE, or that does not act, writes nothing. -/
theorem Writes.skip (ho : TableInOrder u) (h : Writes act g sat u t es)
    (hskip : slotAt u.table.slots e.number = none ∨ act e = false) : Writes act g sat u t (es ++ [e]) := by
  refine ⟨h.slots.trans (List.map_congr_left fun x hx => ?_), fun f => ?_⟩
  · refine (writtenOf_of_other (hskip.imp (fun hnone he => ?_) id)).symm
    rw [he, slotAt_of_mem ho hx] at hnone
    cases hnone
  · rw [writesSaturate_append ho, h.flags]
    rcases hskip with hnone | hidle
    · rw [hnone]
      simp
    · rw [hidle]
      simp

/-- An entry that acts writes the slot of its circuit and sets COUNTER_SAT by its counters. -/
theorem Writes.write (ho : TableInOrder u) (hg : ∀ e x, (g e x).record.number = x.record.number)
    (h : Writes act g sat u t es) (hnew : ∀ d ∈ es, d.number ≠ e.number) (hact : act e = true)
    (hx : slotAt u.table.slots e.number = some x) :
    Writes act g sat u (writeCounted (g e x) (sat e x) t) (es ++ [e]) := by
  have hnum : x.record.number = e.number := (mem_of_slotAt hx).2
  have hat : slotAt t.table.slots (g e x).record.number = some x := by
    rw [hg, hnum, h.slotAt_eq hg hnew, hx]
  have hin : Ascending t.table.slots := h.slots ▸ ascending_map (writtenOf_number hg es) ho
  refine ⟨?_, fun f => ?_⟩
  · refine (writeCounted_slots _ _ _).trans ?_
    rw [putSlot_eq_map hin hat, h.slots, List.map_map]
    refine List.map_congr_left fun z hz => ?_
    change (if (writtenOf act g es z).record.number = (g e x).record.number then g e x else writtenOf act g es z) = _
    rw [writtenOf_number hg, hg]
    by_cases hzn : z.record.number = x.record.number
    · obtain rfl : z = x := by
        have hsame := slotAt_of_mem ho hz
        rw [hzn, hnum, hx] at hsame
        exact (Option.some_inj.1 hsame).symm
      rw [if_pos rfl, (writtenOf_of_new hnew hnum.symm).2 hact]
    · rw [if_neg hzn, writtenOf_of_other (.inl fun he => hzn (he.symm.trans hnum.symm))]
  · refine (flagSet_raiseIf _ .counterSat f _).trans ?_
    rw [writesSaturate_append ho, hx, hact, show flagSet f (writeSlot (g e x) t) = flagSet f t from rfl, h.flags,
      Option.map_some, Option.getD_some, Bool.true_and, Bool.and_or_distrib_right, Bool.or_assoc]

end

/-! ### Delivery, entry by entry -/

/-- The cells that an entry gives. -/
def entryCells (u : State) (e : Entry) : List (Fin 32 × Cell) :=
  ((slotAt u.table.slots e.number).map fun x => cellsOut u.role x (results u e)).getD []

/-- What the delivery of a list of entries leaves. -/
structure Delivers (u t : State) (es : List Entry) : Prop where
  frame : Only [.slots, .flags, .delivered] u t
  writes : Writes (fun _ => true) (fun e => received (results u e)) (fun e => receivedSaturates (results u e)) u t es
  delivered : t.service.delivered = es.flatMap (entryCells u)

section
variable {u t : State} {es : List Entry} {e : Entry}

/-- An entry whose circuit is not LIVE delivers nothing (R171). -/
theorem Delivers.append_free (ho : TableInOrder u) (h : Delivers u t es) (hnone : slotAt u.table.slots e.number = none) :
    Delivers u t (es ++ [e]) := by
  refine ⟨h.frame, h.writes.skip ho (.inl hnone), ?_⟩
  rw [List.flatMap_append, h.delivered, List.flatMap_singleton]
  unfold entryCells
  rw [hnone]
  exact (List.append_nil _).symm

/-- An entry counts on its circuit's slot and delivers its cells (R170, R171). -/
theorem Delivers.append_live (ho : TableInOrder u) (h : Delivers u t es) (hnew : ∀ d ∈ es, d.number ≠ e.number) {x : Slot}
    (hx : slotAt u.table.slots e.number = some x) : Delivers u (deliverEntry t e) (es ++ [e]) := by
  have hresults : judgeEntry t e = results u e := by
    rw [judgeEntry_eq, results_congr h.frame.handed h.frame.orders]
  have hat : slotAt t.table.slots e.number = some x := (h.writes.slotAt_eq (fun _ _ => rfl) hnew).trans hx
  have hentry : deliverEntry t e = { writeCounted (received (results u e) x) (receivedSaturates (results u e) x) t with
      service := { t.service with delivered := t.service.delivered ++ cellsOut t.role x (results u e) } } := by
    unfold deliverEntry
    rw [hat]
    dsimp only
    rw [hresults, countPositions_eq, positionsSaturate_eq, cellsOut_eq]
    unfold writeCounted
    rw [raiseIf_service]
    rfl
  have hwrites := Writes.write (g := fun e => received (results u e)) ho (fun _ _ => rfl) h.writes hnew (by rfl) hx
  refine ⟨h.frame.also (deliverEntry_only t e), ?_, ?_⟩
  · rw [hentry]
    exact ⟨hwrites.slots, hwrites.flags⟩
  · rw [hentry, List.flatMap_append, List.flatMap_singleton, ← h.delivered, h.frame.role]
    unfold entryCells
    rw [hx]
    rfl

theorem Delivers.append (ho : TableInOrder u) (h : Delivers u t es) (hnew : ∀ d ∈ es, d.number ≠ e.number) :
    Delivers u (deliverEntry t e) (es ++ [e]) := by
  cases hx : slotAt u.table.slots e.number with
  | none =>
    have hentry : deliverEntry t e = t := by
      unfold deliverEntry
      rw [h.writes.slotAt_eq (fun _ _ => rfl) hnew, hx]
    rw [hentry]
    exact h.append_free ho hx
  | some x => exact h.append_live ho hnew hx

end

/-- The entries of a list, of distinct numbers, in turn. -/
theorem delivers_foldl {u : State} (ho : TableInOrder u) {es : List Entry} (hn : (es.map (·.number)).Nodup) :
    Delivers u (es.foldl deliverEntry { u with service := { u.service with delivered := [] } }) es := by
  induction es using List.reverseRecOn with
  | nil => exact ⟨.of_eq rfl, writes_nil _ _ _ rfl rfl, rfl⟩
  | append_singleton es e ih =>
    rw [List.map_append, List.nodup_append] at hn
    obtain ⟨hes, -, hne⟩ := hn
    rw [List.foldl_append]
    exact (ih hes).append ho fun d hd => hne _ (List.mem_map_of_mem hd) _ (by simp)

/-- What a superframe delivers is left as it stands by the rest of the superframe's work. -/
theorem completeSuperframe_delivered (inputs : PerLane LaneInput) (s : State) :
    (completeSuperframe inputs s).service.delivered =
      (deliverSuperframe (evaluateAll inputs (settle s))).service.delivered := by
  unfold completeSuperframe superframeWork
  generalize deliverSuperframe (evaluateAll inputs (settle s)) = d
  have hadvance := advance_only (sendSuperframe (judgeIssue (judgeFullSync (receiveControl d))))
  have hsend := sendSuperframe_only (judgeIssue (judgeFullSync (receiveControl d)))
  have hissue := judgeIssue_only (judgeFullSync (receiveControl d))
  have hsync := judgeFullSync_only (receiveControl d)
  have hcontrol := receiveControl_only d
  exact (hadvance .delivered (by decide)).trans ((hsend .delivered (by decide)).trans
    ((hissue .delivered (by decide)).trans ((hsync .delivered (by decide)).trans (hcontrol .delivered (by decide)))))

/-- Settles O53: the table of R170, and the entries of the plan in force in turn. -/
theorem positionsDelivered : Obligations.PositionsDelivered := by
  refine ⟨fun a b c => ⟨rfl, rfl, rfl, rfl, rfl, fun h => ?_⟩, fun s inputs hs => ⟨_, running_of_runs hs _, completeSuperframe_delivered inputs s⟩,
    fun u ho => ⟨fun hno => ?_, fun p hp hblank hn => ?_⟩⟩
  · rcases a with _ | (c | _)
    · rcases b with _ | (d | _)
      · exact ⟨rfl, rfl⟩
      · cases h
      · cases h
    · cases h
    · cases h
  · unfold deliverSuperframe
    cases hp : planInForce u with
    | none => rfl
    | some p =>
      have hb := hno.resolve_left (by rw [hp]; exact Option.some_ne_none p)
      dsimp only
      rw [if_pos hb]
  · have ht : deliverSuperframe u = (p.direction (receivedDirection u.role)).entries.foldl deliverEntry
        { u with service := { u.service with delivered := [] } } := by
      unfold deliverSuperframe
      rw [hp]
      dsimp only
      rw [if_neg (by simp [hblank])]
    have hd := delivers_foldl ho hn
    rw [← ht] at hd
    refine ⟨hd.delivered, ?_, ?_, ?_, hd.frame.eq_merge⟩
    · refine hd.writes.slots.trans (List.map_congr_left fun x _ => ?_)
      unfold writtenOf
      simp only [Bool.and_true]
      cases (p.direction (receivedDirection u.role)).entries.find? fun e => decide (e.number = x.record.number) <;> rfl
    · rw [hd.writes.flags]
      simp [writesSaturate, receivedSaturates]
    · exact raisesOnly_of_formula hd.writes.flags fun f hf => by
        rw [of_decide_eq_true (Bool.and_eq_true_iff.1 hf).2]
        decide

end Sys2Proof.Delivery
end

section
/-! The placement order (R30) and the order of a plan's entries (R37): the order is an insertion sort by one key, which ports do
not enter (R39). -/

-- One declaration after another: side by side, the proofs of the text need more memory than its check allows.
set_option Elab.async false

namespace Sys2Proof.Placement

open Sys2Proof Sys2Proof.Machine Sys2Proof.Claims

/-! ### The order -/

/-- `r` may stand before `q` in placement order. -/
def NotAfter (r q : Record) : Prop := placementKey r ≤ placementKey q

theorem notAfter_trans : IsTrans Record NotAfter := ⟨fun _ _ _ => Nat.le_trans⟩

theorem notAfter_total : Std.Total NotAfter := ⟨fun _ _ => Nat.le_total _ _⟩

/-- A key tells a record's number. -/
theorem number_of_key {r q : Record} (h : placementKey r = placementKey q) : r.number = q.number := by
  unfold placementKey at h
  omega

theorem classRank_eq (c : Class) : classRank c = classCode c := by cases c <;> rfl

theorem classRank_injective {c d : Class} (h : classRank c = classRank d) : c = d :=
  Records.classCode_injective ((classRank_eq c).symm.trans (h.trans (classRank_eq d)))

/-- A smaller key is a place before by class, then priority, then number. -/
theorem placedBefore_of_lt {r q : Record} (h : placementKey r < placementKey q) : placedBefore r q := by
  unfold placementKey at h
  unfold placedBefore
  rcases Nat.lt_trichotomy (classRank r.cls) (classRank q.cls) with hc | hc | hc
  · exact .inl hc
  · refine .inr ⟨classRank_injective hc, ?_⟩
    rw [Fin.lt_def, Fin.lt_def, Fin.ext_iff]
    omega
  · omega

theorem insertPlaced_eq [DecidableRel NotAfter] (r : Record) (qs : List Record) :
    insertPlaced r qs = qs.orderedInsert NotAfter r := by
  induction qs with
  | nil => rfl
  | cons q qs ih =>
    rw [List.orderedInsert_cons, ← ih]
    exact if_congr (Iff.rfl : placementKey r ≤ placementKey q ↔ NotAfter r q) rfl rfl

/-- The placement order is the sort of the direction's records. -/
theorem placementOrder_eq [DecidableRel NotAfter] (d : Direction) (table : List Record) :
    placementOrder d table = (table.filter fun r => decide (r.direction = d)).insertionSort NotAfter := by
  unfold placementOrder List.insertionSort
  rw [show insertPlaced = List.orderedInsert NotAfter from funext fun r => funext (insertPlaced_eq r)]

theorem placementOrder_perm (d : Direction) (table : List Record) :
    (placementOrder d table).Perm (table.filter fun r => decide (r.direction = d)) := by
  classical
  rw [placementOrder_eq]
  exact List.perm_insertionSort ..

theorem placementOrder_sorted (d : Direction) (table : List Record) : (placementOrder d table).Pairwise NotAfter := by
  classical
  have := notAfter_trans
  have := notAfter_total
  rw [placementOrder_eq]
  exact List.pairwise_insertionSort NotAfter _

/-- The numbers of a direction's records are distinct where those of the table are. -/
theorem placementOrder_nodup {d : Direction} {table : List Record} (h : (table.map (·.number)).Nodup) :
    ((placementOrder d table).map (·.number)).Nodup :=
  ((placementOrder_perm d table).map _).nodup_iff.2 (h.sublist (List.filter_sublist.map _))

/-- Records of distinct numbers stand strictly one before the other. -/
theorem placementOrder_placed {d : Direction} {table : List Record} (h : (table.map (·.number)).Nodup) :
    (placementOrder d table).Pairwise placedBefore := by
  have hne : (placementOrder d table).Pairwise fun r q => r.number ≠ q.number :=
    List.pairwise_map.1 (placementOrder_nodup h)
  refine ((placementOrder_sorted d table).and hne).imp fun ⟨hle, hnumber⟩ => placedBefore_of_lt ?_
  exact Nat.lt_of_le_of_ne hle fun he => hnumber (number_of_key he)

/-! ### Entries in placement order -/

theorem placeAll_entries (v : View) (rs : List Record) (position : Nat) (rooms : PerLane LaneRoom) :
    (placeAll v rs position rooms).entries.map (fun e => (e.number, e.cls)) = rs.map fun r => (r.number, r.cls) := by
  induction rs generalizing position rooms with
  | nil => rfl
  | cons r rs ih => exact congrArg _ (ih _ _)

theorem placeAll_positions (v : View) (rs : List Record) (position : Nat) (rooms : PerLane LaneRoom) :
    (placeAll v rs position rooms).entries.map (·.position) = List.range' position rs.length := by
  induction rs generalizing position rooms with
  | nil => rfl
  | cons r rs ih => exact congrArg _ (ih _ _)

theorem computePlan_direction (stamp : Stamp) (v : View) (table : List Record) (d : Direction) :
    (computePlan stamp v table).direction d = planDirection v table d := by cases d <;> rfl

/-- Settles O29: entries follow the sorted records one by one. -/
theorem placementOrderOfEntries : Obligations.PlacementOrderOfEntries := by
  intro stamp v table d hn
  dsimp only
  rw [computePlan_direction]
  unfold planDirection
  have hentries := placeAll_entries v (placementOrder d table) 0 (startRooms v d)
  have hpositions := placeAll_positions v (placementOrder d table) 0 (startRooms v d)
  have hnumbers := congrArg (List.map Prod.fst) hentries
  have hlength := congrArg List.length hentries
  simp only [List.map_map, List.length_map, Function.comp_def] at hnumbers hlength
  refine ⟨hnumbers ▸ (placementOrder_perm d table).map _, ?_, placementOrder_placed hn, hentries, rfl, rfl, rfl⟩
  rw [hpositions, hlength, List.range_eq_range']

/-! ### What takes no part -/

/-- A record of given planning fields, with both ports 0. -/
def ofPlanned : Fin 64 × Direction × Class × Fin 16 × Nat × Option Nat × List (Fin 4) → Record
  | (number, direction, cls, priority, demand, floor, preference) =>
    ⟨number, direction, 0, 0, cls, priority, demand, floor, preference⟩

/-- The record with both ports 0. -/
def portless (r : Record) : Record := ofPlanned (planned r)

theorem placementOrder_portless (d : Direction) (table : List Record) :
    placementOrder d (table.map portless) = (placementOrder d table).map portless := by
  classical
  rw [placementOrder_eq, placementOrder_eq, List.filter_map]
  exact (List.map_insertionSort NotAfter NotAfter portless _ fun _ _ _ _ => Iff.rfl).symm

theorem placeAll_portless (v : View) (rs : List Record) (position : Nat) (rooms : PerLane LaneRoom) :
    placeAll v (rs.map portless) position rooms = placeAll v rs position rooms := by
  induction rs generalizing position rooms with
  | nil => rfl
  | cons r rs ih =>
    have hstep : choosePlacing rooms (candidates v (portless r)) (portless r) = choosePlacing rooms (candidates v r) r := rfl
    rw [List.map_cons]
    unfold placeAll
    dsimp only
    rw [hstep, ih]
    rfl

/-- The order in which records of distinct numbers are listed takes no part. -/
theorem placementOrder_of_perm {d : Direction} {t u : List Record} (hn : (t.map (·.number)).Nodup) (h : t.Perm u) :
    placementOrder d t = placementOrder d u := by
  have hperm : (placementOrder d t).Perm (placementOrder d u) :=
    (placementOrder_perm d t).trans ((h.filter _).trans (placementOrder_perm d u).symm)
  refine hperm.eq_of_pairwise (fun a b ha hb hab hba => ?_) (placementOrder_sorted d t) (placementOrder_sorted d u)
  exact List.inj_on_of_nodup_map (placementOrder_nodup hn) ha (hperm.mem_iff.2 hb) (number_of_key (Nat.le_antisymm hab hba))

theorem planDirection_congr {v : View} {t u : List Record} (hn : (t.map (·.number)).Nodup)
    (h : (t.map planned).Perm (u.map planned)) (d : Direction) : planDirection v t d = planDirection v u d := by
  have hperm : (t.map portless).Perm (u.map portless) := by
    have hmap := h.map ofPlanned
    rwa [List.map_map, List.map_map] at hmap
  have hnumbers : ((t.map portless).map (·.number)).Nodup := by
    rw [List.map_map]
    exact hn
  have horder := placementOrder_of_perm (d := d) hnumbers hperm
  unfold planDirection
  rw [← placeAll_portless v (placementOrder d t), ← placeAll_portless v (placementOrder d u), ← placementOrder_portless,
    ← placementOrder_portless, horder]

/-- Settles O31: a record enters the plan without its ports, and through the sorted list of its direction. -/
theorem planIgnoresPortsAndOrder : Obligations.PlanIgnoresPortsAndOrder := by
  intro stamp other v t u hn h
  have hlength := h.length_eq
  rw [List.length_map, List.length_map] at hlength
  unfold computePlan
  rw [planDirection_congr hn h, planDirection_congr hn h, hlength]

end Sys2Proof.Placement
end

section
/-! The placement steps (R31 to R36): the candidate lanes, the steps in their order, and what a placing takes from the rooms. -/

-- One declaration after another: side by side, the proofs of the text need more memory than its check allows.
set_option Elab.async false

namespace Sys2Proof.Placement

open Sys2Proof Sys2Proof.Machine Sys2Proof.Claims

/-! ### Candidates -/

theorem mem_candidates {v : View} {r : Record} {l : Fin 4} : l ∈ candidates v r ↔
    l ∈ (if r.preference = [] then laneNumbers else r.preference) ∧ (viewDir v r.direction l).usable = true := by
  unfold candidates
  simp only [List.mem_append, List.mem_filter, Bool.not_eq_true']
  cases (viewDir v r.direction l).suspect <;> simp

theorem laneNumbers_nodup : laneNumbers.Nodup := by decide

theorem candidates_nodup {v : View} {r : Record} (h : r.preference.Nodup) : (candidates v r).Nodup := by
  have hwanted : (if r.preference = [] then laneNumbers else r.preference).Nodup := by
    split
    · exact laneNumbers_nodup
    · exact h
  unfold candidates
  refine List.Nodup.append ((hwanted.filter _).filter _) ((hwanted.filter _).filter _) fun l hclear hsuspect => ?_
  have hno := (List.mem_filter.1 hclear).2
  have hyes := (List.mem_filter.1 hsuspect).2
  rw [hyes] at hno
  cases hno

/-! ### The steps -/

section
variable {rooms : PerLane LaneRoom} {lanes : List (Fin 4)}

theorem fitting_cons (l : Fin 4) (ls : List (Fin 4)) (amount : Nat) : fitting rooms (l :: ls) amount =
    if amount ≤ (rooms.get l).remaining then l :: fitting rooms ls amount else fitting rooms ls amount := by
  unfold fitting
  rw [List.filter_cons]
  simp only [decide_eq_true_eq]

theorem firstFit_eq (amount : Nat) (lanes : List (Fin 4)) :
    firstFit rooms amount lanes = (fitting rooms lanes amount).head? := by
  induction lanes with
  | nil => rfl
  | cons l ls ih =>
    unfold firstFit
    rw [fitting_cons, ih]
    split <;> rfl

theorem tryOne_eq (served : Served) (amount : Nat) : tryOne rooms lanes served amount =
    (firstFit rooms amount lanes).map fun a => ⟨served, some a, none, amount⟩ := by
  rw [firstFit_eq]
  unfold tryOne
  cases fitting rooms lanes amount <;> rfl

theorem tryTwo_eq (served : Served) (amount : Nat) : tryTwo rooms lanes served amount =
    (firstTwo rooms amount lanes).map fun ab => ⟨served, some ab.1, some ab.2, amount⟩ := by
  induction lanes with
  | nil => rfl
  | cons l ls ih =>
    by_cases hfit : amount ≤ (rooms.get l).remaining
    · unfold tryTwo firstTwo
      rw [fitting_cons, if_pos hfit, if_pos hfit, firstFit_eq]
      cases fitting rooms ls amount <;> rfl
    · have hskip : tryTwo rooms (l :: ls) served amount = tryTwo rooms ls served amount := by
        unfold tryTwo
        rw [fitting_cons, if_neg hfit]
      rw [hskip, ih, firstTwo, if_neg hfit]

/-- A step at the floor is tried where the record has one. -/
theorem floor_bind {β : Type} (floor : Option Nat) (f : Nat → Option β) (g : Nat → β → Placing) :
    (floor.bind fun n => (f n).map (g n)) = (floor.bind f).map (g (floor.getD 0)) := by
  cases floor <;> rfl

theorem choosePlacing_prot {r : Record} (h : r.cls = .prot) : choosePlacing rooms lanes r =
    ((firstTwo rooms r.demand lanes).map fun ab => ⟨.fullDual, some ab.1, some ab.2, r.demand⟩).getD
      (((r.floor.bind (firstTwo rooms · lanes)).map fun ab => ⟨.floorDual, some ab.1, some ab.2, r.floor.getD 0⟩).getD
        (((firstFit rooms r.demand lanes).map fun a => ⟨.fullSingle, some a, none, r.demand⟩).getD
          (((r.floor.bind (firstFit rooms · lanes)).map fun a => ⟨.floorSingle, some a, none, r.floor.getD 0⟩).getD
            shedPlacing))) := by
  unfold choosePlacing
  rw [h]
  simp only [tryTwo_eq, tryOne_eq, floor_bind]

theorem choosePlacing_standard {r : Record} (h : r.cls = .standard) : choosePlacing rooms lanes r =
    ((firstFit rooms r.demand lanes).map fun a => ⟨.fullSingle, some a, none, r.demand⟩).getD
      (((r.floor.bind (firstFit rooms · lanes)).map fun a => ⟨.floorSingle, some a, none, r.floor.getD 0⟩).getD
        shedPlacing) := by
  unfold choosePlacing
  rw [h]
  simp only [tryOne_eq, floor_bind]

theorem choosePlacing_extra {r : Record} (h : r.cls = .extra) : choosePlacing rooms lanes r =
    ((firstFit rooms r.demand lanes).map fun a => ⟨.fullSingle, some a, none, r.demand⟩).getD shedPlacing := by
  unfold choosePlacing
  rw [h]
  simp only [tryOne_eq]

end

/-- Settles O30: the candidates by membership and order, and the steps of each class, first success first. -/
theorem placementSteps : Obligations.PlacementSteps := by
  refine ⟨fun v r => ⟨fun l => mem_candidates, candidates_nodup, ?_, fun _ _ _ => rfl⟩, fun rooms lanes r =>
    ⟨fun hc => ?_, fun hc => ?_, fun hc => ?_⟩⟩
  · refine ⟨_, _, rfl, List.filter_sublist.trans List.filter_sublist, List.filter_sublist.trans List.filter_sublist,
      fun l hl => ?_, fun l hl => ?_⟩
    · simpa using (List.mem_filter.1 hl).2
    · simpa using (List.mem_filter.1 hl).2
  · rw [choosePlacing_prot hc]
    dsimp only
    cases firstTwo rooms r.demand lanes with
    | some ab => rfl
    | none =>
      cases r.floor.bind (firstTwo rooms · lanes) with
      | some ab => rfl
      | none =>
        cases firstFit rooms r.demand lanes with
        | some a => rfl
        | none => cases r.floor.bind (firstFit rooms · lanes) <;> rfl
  · rw [choosePlacing_standard hc]
    dsimp only
    cases firstFit rooms r.demand lanes with
    | some a => rfl
    | none => cases r.floor.bind (firstFit rooms · lanes) <;> rfl
  · rw [choosePlacing_extra hc]
    dsimp only
    cases firstFit rooms r.demand lanes <;> rfl

end Sys2Proof.Placement
end

section
/-! The slots of a plan (R29, R35, R37): every placing takes from rooms that fit it, so the runs of a lane follow each other
without a gap and stay within its capacity. -/

-- One declaration after another: side by side, the proofs of the text need more memory than its check allows.
set_option Elab.async false

namespace Sys2Proof.Placement

open Sys2Proof Sys2Proof.Machine Sys2Proof.Claims

/-! ### What a placing takes -/

/-- The lanes of a placing. -/
def lanesOf (p : Placing) : List (Fin 4) := p.laneA.toList ++ p.laneB.toList

/-- A placing takes its lanes from those that fit its slots. -/
def Fits (rooms : PerLane LaneRoom) (lanes : List (Fin 4)) (p : Placing) : Prop :=
  (lanesOf p).Sublist (fitting rooms lanes p.slots)

section
variable {rooms : PerLane LaneRoom} {lanes : List (Fin 4)}

theorem fits_tryTwo {served : Served} {amount : Nat} {p : Placing} (h : tryTwo rooms lanes served amount = some p) :
    Fits rooms lanes p := by
  unfold tryTwo at h
  split at h
  next a b ls hfit =>
    cases h
    unfold Fits
    rw [hfit]
    exact (List.nil_sublist ls).cons_cons b |>.cons_cons a
  next => cases h

theorem fits_tryOne {served : Served} {amount : Nat} {p : Placing} (h : tryOne rooms lanes served amount = some p) :
    Fits rooms lanes p := by
  unfold tryOne at h
  split at h
  next a ls hfit =>
    cases h
    unfold Fits
    rw [hfit]
    exact (List.nil_sublist ls).cons_cons a
  next => cases h

theorem fits_shed : Fits rooms lanes shedPlacing := List.nil_sublist _

theorem fits_getD {o : Option Placing} {q : Placing} (ho : ∀ p, o = some p → Fits rooms lanes p) (hq : Fits rooms lanes q) :
    Fits rooms lanes (o.getD q) := by
  cases o with
  | none => exact hq
  | some p => exact ho p rfl

theorem fits_choosePlacing (r : Record) : Fits rooms lanes (choosePlacing rooms lanes r) := by
  have htwo : ∀ served p, r.floor.bind (tryTwo rooms lanes served) = some p → Fits rooms lanes p := fun served p h =>
    have ⟨_, _, hp⟩ := Option.bind_eq_some_iff.1 h
    fits_tryTwo hp
  have hone : ∀ served p, r.floor.bind (tryOne rooms lanes served) = some p → Fits rooms lanes p := fun served p h =>
    have ⟨_, _, hp⟩ := Option.bind_eq_some_iff.1 h
    fits_tryOne hp
  unfold choosePlacing
  split
  · exact fits_getD (fun _ => fits_tryTwo) (fits_getD (htwo _) (fits_getD (fun _ => fits_tryOne) (fits_getD (hone _) fits_shed)))
  · exact fits_getD (fun _ => fits_tryOne) (fits_getD (hone _) fits_shed)
  · exact fits_getD (fun _ => fits_tryOne) fits_shed

theorem Fits.nodup {p : Placing} (h : Fits rooms lanes p) (hn : lanes.Nodup) : (lanesOf p).Nodup :=
  (hn.filter _).sublist h

theorem Fits.mem {p : Placing} (h : Fits rooms lanes p) {l : Fin 4} (hl : l ∈ lanesOf p) :
    l ∈ lanes ∧ p.slots ≤ (rooms.get l).remaining := by
  obtain ⟨hmem, hfit⟩ := List.mem_filter.1 (h.subset hl)
  exact ⟨hmem, of_decide_eq_true hfit⟩

end

/-! ### The rooms and the entry of a placing -/

/-- The rooms that a placing leaves. -/
def roomsAfter (rooms : PerLane LaneRoom) (p : Placing) : PerLane LaneRoom :=
  takeRoom (takeRoom rooms p.laneA p.slots) p.laneB p.slots

theorem takeRoom_get (rooms : PerLane LaneRoom) (lane : Option (Fin 4)) (amount : Nat) (l : Fin 4) :
    (takeRoom rooms lane amount).get l = { rooms.get l with
      remaining := (rooms.get l).remaining - if lane = some l then amount else 0 } := by
  cases lane with
  | none => rfl
  | some a =>
    unfold takeRoom
    dsimp only
    rw [PerLane.get_set]
    by_cases h : l = a
    · rw [if_pos h, if_pos (by rw [h]), h]
    · rw [if_neg h, if_neg fun he => h (Option.some.inj he).symm]
      rfl

/-- The slots that a placing takes on a lane. -/
def slotsOn (p : Placing) (l : Fin 4) : Nat := ((lanesOf p).count l) * p.slots

theorem roomsAfter_get (rooms : PerLane LaneRoom) (p : Placing) (l : Fin 4) : (roomsAfter rooms p).get l =
    { rooms.get l with remaining := (rooms.get l).remaining - slotsOn p l } := by
  unfold roomsAfter slotsOn lanesOf
  rw [takeRoom_get, takeRoom_get]
  have hcount : ∀ o : Option (Fin 4), (if o = some l then p.slots else 0) = o.toList.count l * p.slots := by
    rintro (_ | a)
    · simp
    · by_cases h : a = l <;> simp [h]
  rw [hcount, hcount, List.count_append, Nat.add_mul, Nat.sub_sub]

/-- A fitting placing takes at most what is left. -/
theorem Fits.slotsOn_le {rooms : PerLane LaneRoom} {lanes : List (Fin 4)} {p : Placing} (h : Fits rooms lanes p)
    (hn : lanes.Nodup) (l : Fin 4) : slotsOn p l ≤ (rooms.get l).remaining := by
  unfold slotsOn
  by_cases hl : l ∈ lanesOf p
  · rw [List.count_eq_one_of_mem (h.nodup hn) hl, Nat.one_mul]
    exact (h.mem hl).2
  · rw [List.count_eq_zero_of_not_mem hl, Nat.zero_mul]
    exact Nat.zero_le _

theorem entryFor_runs (rooms : PerLane LaneRoom) (position : Nat) (r : Record) (p : Placing) :
    (entryFor rooms position r p).runs = (lanesOf p).map fun l => ⟨l, firstSlot rooms l⟩ := by
  obtain ⟨served, a, b, n⟩ := p
  cases a <;> cases b <;> rfl

theorem slotsTaken_cons (e : Entry) (es : List Entry) (l : Fin 4) :
    slotsTaken (e :: es) l = slotsTaken [e] l + slotsTaken es l := by
  unfold slotsTaken
  simp only [List.map_cons, List.map_nil, List.sum_cons, List.sum_nil, Nat.add_zero]

theorem slotsTaken_append (es fs : List Entry) (l : Fin 4) :
    slotsTaken (es ++ fs) l = slotsTaken es l + slotsTaken fs l := by
  unfold slotsTaken
  rw [List.map_append, List.sum_append]

theorem slotsTaken_entryFor (rooms : PerLane LaneRoom) (position : Nat) (r : Record) (p : Placing) (l : Fin 4) :
    slotsTaken [entryFor rooms position r p] l = slotsOn p l := by
  unfold slotsTaken slotsOn
  rw [List.map_singleton, List.sum_singleton, entryFor_runs]
  simp [List.filter_map, Function.comp_def, List.count_eq_length_filter, entryFor]
  exact .inl rfl

/-- An entry takes its slots on the lane of each of its runs. -/
theorem slots_le_slotsTaken {e : Entry} {q : SlotRun} (h : q ∈ e.runs) : e.slots ≤ slotsTaken [e] q.lane := by
  unfold slotsTaken
  rw [List.map_singleton, List.sum_singleton]
  exact List.le_sum_of_mem (List.mem_map.2 ⟨q, List.mem_filter.2 ⟨h, decide_eq_true rfl⟩, rfl⟩)

/-! ### Placed one at a time -/

/-- What placing circuits from rooms on leaves: capacities stand, the slots taken are those that are gone, each run starts
where the runs before it end, and each entry has distinct lanes, usable ones. -/
structure Places (usable : Fin 4 → Prop) (rooms : PerLane LaneRoom) (plan : DirPlan) : Prop where
  capacity : ∀ l, (plan.rooms.get l).capacity = (rooms.get l).capacity
  taken : ∀ l, slotsTaken plan.entries l + (plan.rooms.get l).remaining = (rooms.get l).remaining
  first : ∀ es e fs, plan.entries = es ++ e :: fs → ∀ q ∈ e.runs, q.first = firstSlot rooms q.lane + slotsTaken es q.lane
  lanes : ∀ e ∈ plan.entries, (e.runs.map (·.lane)).Nodup ∧ ∀ q ∈ e.runs, usable q.lane

theorem places_placeAll {v : View} {usable : Fin 4 → Prop} (rs : List Record) (position : Nat) (rooms : PerLane LaneRoom)
    (hrooms : ∀ l, (rooms.get l).remaining ≤ (rooms.get l).capacity)
    (hrs : ∀ r ∈ rs, (candidates v r).Nodup ∧ ∀ l ∈ candidates v r, usable l) :
    Places usable rooms (placeAll v rs position rooms) := by
  induction rs generalizing position rooms with
  | nil => exact ⟨fun _ => rfl, fun _ => Nat.zero_add _, fun es e fs h => by simp [placeAll] at h, fun e h => by simp [placeAll] at h⟩
  | cons r rs ih =>
    have hfits := fits_choosePlacing (rooms := rooms) (lanes := candidates v r) r
    obtain ⟨hnodup, husable⟩ := hrs r List.mem_cons_self
    unfold placeAll
    dsimp only
    generalize choosePlacing rooms (candidates v r) r = p at hfits ⊢
    change Places usable rooms ⟨(placeAll v rs (position + 1) (roomsAfter rooms p)).rooms,
      entryFor rooms position r p :: (placeAll v rs (position + 1) (roomsAfter rooms p)).entries⟩
    have hafter := fun l => roomsAfter_get rooms p l
    have hle := fun l => hfits.slotsOn_le hnodup l
    have hruns := entryFor_runs rooms position r p
    have hrest := ih (position + 1) (roomsAfter rooms p)
      (fun l => by rw [hafter]; exact Nat.le_trans (Nat.sub_le _ _) (hrooms l))
      fun q hq => hrs q (List.mem_cons_of_mem _ hq)
    refine ⟨fun l => by rw [hrest.capacity, hafter], fun l => ?_, fun es e fs hsplit q hq => ?_, fun e he => ?_⟩
    · have htaken := hrest.taken l
      rw [hafter] at htaken
      rw [slotsTaken_cons, slotsTaken_entryFor]
      have := hle l
      dsimp only at htaken ⊢
      omega
    · dsimp only at hsplit
      cases es with
      | nil =>
        obtain ⟨rfl, -⟩ := List.cons_eq_cons.1 hsplit
        rw [hruns] at hq
        obtain ⟨l, -, rfl⟩ := List.mem_map.1 hq
        rfl
      | cons f es =>
        obtain ⟨rfl, htail⟩ := List.cons_eq_cons.1 hsplit
        rw [hrest.first es e fs htail q hq, slotsTaken_cons, slotsTaken_entryFor]
        unfold firstSlot
        rw [hafter]
        have := hle q.lane
        have := hrooms q.lane
        dsimp only
        omega
    · rcases List.mem_cons.1 he with rfl | he
      · rw [hruns, List.map_map]
        refine ⟨(List.map_id' (lanesOf p)).symm ▸ hfits.nodup hnodup, fun q hq => ?_⟩
        obtain ⟨l, hl, rfl⟩ := List.mem_map.1 hq
        exact husable l (hfits.mem hl).1
      · exact hrest.lanes e he

/-! ### A whole direction -/

theorem firstSlot_startRooms (v : View) (d : Direction) (l : Fin 4) : firstSlot (startRooms v d) l = 0 := by
  unfold firstSlot startRooms
  rw [PerLane.get_ofFn]
  exact Nat.sub_self _

theorem places_planDirection {v : View} {table : List Record} {d : Direction} (h : ∀ r ∈ table, r.preference.Nodup) :
    Places (fun l => (viewDir v d l).usable = true) (startRooms v d) (planDirection v table d) := by
  refine places_placeAll _ _ _ (fun l => ?_) fun r hr => ?_
  · unfold startRooms
    rw [PerLane.get_ofFn]
  · obtain ⟨hmem, hd⟩ := List.mem_filter.1 ((placementOrder_perm d table).mem_iff.1 hr)
    refine ⟨candidates_nodup (h r hmem), fun l hl => ?_⟩
    rw [← of_decide_eq_true hd]
    exact (mem_candidates.1 hl).2

/-- A relation that holds from each element of a list to all those behind it. -/
theorem pairwise_of_splits {α : Type} {R : α → α → Prop} {l : List α}
    (h : ∀ as a bs b cs, l = as ++ a :: bs ++ b :: cs → R a b) : l.Pairwise R := by
  induction l with
  | nil => exact .nil
  | cons a l ih =>
    refine .cons (fun b hb => ?_) (ih fun as a' bs b cs hl => h (a :: as) a' bs b cs (hl ▸ rfl))
    obtain ⟨bs, cs, rfl⟩ := List.append_of_mem hb
    exact h [] a bs b cs rfl

/-- Settles O28: an entry's runs start at the slots taken before it, and the slots taken never exceed a lane's capacity. -/
theorem planSlotsApart : Obligations.PlanSlotsApart := by
  intro stamp v table d hpref
  dsimp only
  rw [computePlan_direction]
  obtain ⟨hcapacity, htaken, hfirst, hlanes⟩ := places_planDirection (v := v) (d := d) hpref
  generalize planDirection v table d = plan at *
  replace hfirst : ∀ es e fs, plan.entries = es ++ e :: fs → ∀ q ∈ e.runs, q.first = slotsTaken es q.lane :=
    fun es e fs hsplit q hq => by rw [hfirst es e fs hsplit q hq, firstSlot_startRooms, Nat.zero_add]
  have hroom : ∀ l, (startRooms v d).get l = ⟨planCapacity v d l, planCapacity v d l⟩ := fun l => PerLane.get_ofFn _ l
  simp only [hroom] at hcapacity htaken
  refine ⟨fun e he q hq => ?_, fun e he a b ha hb => ?_, pairwise_of_splits fun es e gs f fs hsplit q hq q' hq' hlane => ?_,
    fun es fs e => hfirst es e fs, fun l => ⟨hcapacity l, by rw [htaken, hcapacity]⟩⟩
  · have husable := (hlanes e he).2 q hq
    refine ⟨husable, ?_⟩
    obtain ⟨es, fs, hsplit⟩ := List.append_of_mem he
    have hle := slots_le_slotsTaken hq
    have htotal := htaken q.lane
    have hcap : planCapacity v d q.lane = layoutCapacity v d q.lane := if_pos husable
    rw [hsplit, slotsTaken_append, slotsTaken_cons, hcap] at htotal
    change q.first + e.slots ≤ layoutCapacity v d q.lane
    rw [hfirst es e fs hsplit q hq]
    omega
  · have hn := (hlanes e he).1
    unfold Entry.runs at hn
    rw [ha, hb] at hn
    simpa using hn
  · have hle := slots_le_slotsTaken hq
    rw [hfirst _ f fs hsplit q' hq', hfirst es e (gs ++ f :: fs) (by rw [hsplit]; simp) q hq, ← hlane, slotsTaken_append,
      slotsTaken_cons]
    omega

end Sys2Proof.Placement
end

section
/-! LANE SETUP (R50), and the levels that the board gives and takes (R49, R93, R175). -/

-- One declaration after another: side by side, the proofs of the text need more memory than its check allows.
set_option Elab.async false

namespace Sys2Proof.Board

open Sys2Proof Sys2Proof.Machine Sys2Proof.Claims

/-! ### LANE SETUP -/

theorem kindOf_eq_some_iff {n : Nat} {kind : Kind} : kindOf n = some kind ↔ kindCode kind = n := by
  unfold kindOf
  split <;> cases kind <;> simp_all [kindCode, eq_comm]

theorem kindOf_of_ge {n : Nat} (h : 3 ≤ n) : kindOf n = none := by
  match n, h with
  | _ + 3, _ => rfl

theorem enableOf_of_ge {n : Nat} (h : 2 ≤ n) : enableOf n = none := by
  match n, h with
  | _ + 2, _ => rfl

theorem exec_laneSetup {s : State} (hs : Runs s) (lb kb eb : Byte) :
    exec (.laneSetup [lb, kb, eb]) s = .next (laneSetupRequest [lb, kb, eb] s) :=
  request_of_length hs rfl _

theorem laneSetupRequest_eq {s : State} {lb kb eb : Byte} {l : Fin 4} {kind : Kind} {enable : Bool} (hl : lb.toNat = l.val)
    (hk : kb.toNat = kindCode kind) (he : enableOf eb.toNat = some enable) :
    laneSetupRequest [lb, kb, eb] s = laneSetup l kind enable s := by
  unfold laneSetupRequest byteAt
  simp only [List.getD_cons_zero, List.getD_cons_succ]
  rw [Records.laneOf_eq_some_iff.2 hl.symm, kindOf_eq_some_iff.2 hk.symm, he]

/-- A LANE SETUP with a field out of its range changes nothing. -/
theorem laneSetupRequest_bad {s : State} {lb kb eb : Byte} (h : 4 ≤ lb.toNat ∨ 3 ≤ kb.toNat ∨ 2 ≤ eb.toNat) :
    laneSetupRequest [lb, kb, eb] s = respond 0x06 .badField [] s := by
  unfold laneSetupRequest byteAt
  simp only [List.getD_cons_zero, List.getD_cons_succ]
  rcases h with hl | hk | he
  · rw [Guarding.laneOf_of_ge hl]
  · rw [kindOf_of_ge hk]
    cases laneOf lb.toNat <;> rfl
  · rw [enableOf_of_ge he]
    cases laneOf lb.toNat <;> cases kindOf kb.toNat <;> rfl

section
variable {s : State} {l : Fin 4} (kind : Kind)

/-- A LANE SETUP that is taken answers the lane as it then stands. -/
theorem laneSetup_taken {enable : Bool} (h : (s.lanes.get l).state = .off ∨ enable = false) {new : Lane}
    (hnew : setupLane kind enable (noCauses (guardOf s l).causes) (s.lanes.get l) = new) {moved : Bool}
    (hmoved : decide (new.state ≠ (s.lanes.get l).state) = moved) {fields : List Field}
    (hfields : [markField new.enable, .num 1 (kindCode new.kind), .num 1 (laneStateCode new.state)] = fields) :
    laneSetup l kind enable s =
      respond 0x06 .ok fields (raiseIf moved .lane { s with lanes := s.lanes.set l new }) := by
  unfold laneSetup
  dsimp only
  rw [if_neg fun hrefused => h.elim hrefused.1 fun he => Bool.false_ne_true (he.symm.trans hrefused.2), hnew]
  unfold setupFields
  rw [changeLane_lanes, PerLane.get_set_self, ← hfields, ← hmoved]
  rfl

theorem laneSetup_refused (h : (s.lanes.get l).state ≠ .off) :
    laneSetup l kind true s = respond 0x06 .badState (setupFields s l) s := if_pos ⟨h, rfl⟩

end

/-- Settles O33: the fields in turn, then the lane's state. -/
theorem laneSetupTable : Obligations.LaneSetupTable := by
  intro s l kind lb kb eb hs
  rw [exec_laneSetup hs]
  refine ⟨fun hbad => congrArg _ (laneSetupRequest_bad hbad), fun hl hk =>
    ⟨fun hoff heb => ?_, fun hoff heb => ?_, fun hon heb => ?_, fun hon heb => ?_⟩⟩
  · subst heb
    have hnew : setupLane kind false (noCauses (guardOf s l).causes) (s.lanes.get l) =
        { s.lanes.get l with enable := false, kind := kind } := by
      rw [setupLane, if_pos hoff, if_neg Bool.false_ne_true, ← hoff]
    rw [laneSetupRequest_eq hl hk rfl, laneSetup_taken kind (.inr rfl) hnew (decide_eq_false fun hne => hne rfl)
      (fields := [.num 1 0, .num 1 (kindCode kind), .num 1 0]) (by dsimp only; rw [hoff]; rfl)]
    rfl
  · subst heb
    have hnew : setupLane kind true (noCauses (guardOf s l).causes) (s.lanes.get l) = { s.lanes.get l with
        enable := true, kind := kind
        state := if (s.prot.guards.get l).causes = Causes.none then .dark else .quarantined } := by
      rw [setupLane, if_pos hoff, if_pos rfl, Guarding.noCauses_eq]
      simp only [decide_eq_true_eq]
      rfl
    have hmoved : (if (s.prot.guards.get l).causes = Causes.none then LaneState.dark else .quarantined) ≠
        (s.lanes.get l).state := by
      rw [hoff]
      split <;> decide
    rw [laneSetupRequest_eq hl hk rfl, laneSetup_taken kind (.inl hoff) hnew (decide_eq_true hmoved) rfl]
    rfl
  · subst heb
    rw [laneSetupRequest_eq hl hk rfl, laneSetup_taken kind (.inr rfl) (if_neg hon) (decide_eq_true (Ne.symm hon)) rfl]
    rfl
  · subst heb
    rw [laneSetupRequest_eq hl hk rfl, laneSetup_refused kind hon]
    rfl

/-! ### Levels -/

theorem setSupply_same {s : State} {supply : Supply} (h : s.prot.supply = supply) : setSupply supply s = s := by
  subst h
  unfold setSupply
  rw [decide_eq_false fun hne => hne rfl]
  rfl

/-- Settles O34: each level as it is written, and the lines of a side by its binding and its circuit's entry. -/
theorem boardLevelsFollowed : Obligations.BoardLevelsFollowed := by
  refine ⟨fun s l g => ?_, fun s hs => ⟨fun hn => ⟨?_, ?_⟩, fun hd => ⟨?_, ?_⟩, fun side port => ⟨?_, ?_, ?_⟩⟩⟩
  · change Host.Outcome.next (setGrade l g s) = _
    unfold setGrade raiseIf effectiveGrade
    simp only [← Bool.decide_and, decide_eq_true_eq]
  · refine (running_of_runs hs _).trans (congrArg _ ?_)
    unfold setSupply
    rw [hn]
    rfl
  · exact (running_of_runs hs _).trans (congrArg _ (setSupply_same hn))
  · refine (running_of_runs hs _).trans (congrArg _ ?_)
    unfold setSupply
    rw [hd]
    rfl
  · exact (running_of_runs hs _).trans (congrArg _ (setSupply_same hd))
  · rintro (hx | hp)
    · unfold gradeOutput
      rw [hx]
    · unfold gradeOutput
      rw [hp]
      cases boundSlot s side port <;> rfl
  · intro x p hx hp he
    unfold gradeOutput
    rw [hx, hp]
    dsimp only
    rw [he]
  · intro x p e hx hp he
    unfold gradeOutput
    rw [hx, hp]
    dsimp only
    rw [he]
    change gradeOf e.served = _
    cases e.served <;> rfl

end Sys2Proof.Board
end

section
/-! Layouts read back (0.4, R203): where a part of a layout stands, and each part of a control message read from its bytes. -/

-- One declaration after another: side by side, the proofs of the text need more memory than its check allows.
set_option Elab.async false

namespace Sys2Proof.Layout

open Sys2Proof Sys2Proof.Machine Sys2Proof.Claims

/-! ### Where a part stands -/

section
variable {front part rest : List Byte} {at_ n : Nat}

theorem slice_skip (h : front.length ≤ at_) : slice (front ++ rest) at_ n = slice rest (at_ - front.length) n := by
  unfold slice
  rw [List.drop_append, List.drop_eq_nil_of_le h, List.nil_append]

theorem numAt_skip (h : front.length ≤ at_) : numAt (front ++ rest) at_ n = numAt rest (at_ - front.length) n :=
  congrArg natOfBytes (slice_skip h)

theorem byteAt_skip (h : front.length ≤ at_) : byteAt (front ++ rest) at_ = byteAt rest (at_ - front.length) := by
  unfold byteAt
  rw [List.getD_append_right _ _ _ _ h]

theorem slice_front (h : part.length = n) : slice (part ++ rest) 0 n = part := slice_append (front := []) rfl h

theorem numAt_front {v : Nat} (h : v < 256 ^ n) : numAt (bytesOfNat n v ++ rest) 0 n = v := numAt_append (front := []) rfl h

end

theorem toNat_ofNat_of_lt {v : Nat} (h : v < 256) : (BitVec.ofNat 8 v : Byte).toNat = v := Nat.mod_eq_of_lt h

theorem ofNat_toNat {w : Nat} (x : BitVec w) : BitVec.ofNat w x.toNat = x := BitVec.ofNat_toNat .. |>.trans (BitVec.setWidth_eq x)

/-! ### The parts of a control message -/

theorem stampAt_front (stamp : Stamp) {front rest : List Byte} {at_ : Nat} (h : front.length = at_) :
    stampAt (front ++ (stampBytes stamp ++ rest)) at_ = stamp := by
  have hg : numAt (front ++ (stampBytes stamp ++ rest)) at_ 2 = stamp.generation.toNat := by
    unfold stampBytes
    rw [numAt_skip h.le, h, Nat.sub_self, List.append_assoc, numAt_front stamp.generation.isLt]
  have hn : numAt (front ++ (stampBytes stamp ++ rest)) (at_ + 2) 2 = stamp.number.toNat := by
    unfold stampBytes
    rw [numAt_skip (by omega), h, Nat.add_sub_cancel_left, List.append_assoc, numAt_skip (by simp), bytesOfNat_length,
      Nat.sub_self, numAt_front stamp.number.isLt]
  unfold stampAt
  rw [hg, hn, ofNat_toNat, ofNat_toNat]

theorem dirViewCode_lt (v : DirView) : dirViewCode v < 16 := by
  obtain ⟨usable, suspect, grade⟩ := v
  revert usable suspect grade
  decide

theorem dirViewOf_code (v : DirView) : dirViewOf (dirViewCode v) = v := by
  obtain ⟨usable, suspect, grade⟩ := v
  revert usable suspect grade
  decide

theorem dirViewOf_mod (n : Nat) : dirViewOf n = dirViewOf (n % 16) := by
  unfold dirViewOf
  rw [Nat.mod_mod, Nat.mod_mod_of_dvd n (by decide : 8 ∣ 16)]
  congr 2
  omega

theorem laneViewAt_front (v : LaneView) {front rest : List Byte} {at_ : Nat} (h : front.length = at_) :
    laneViewAt (front ++ (laneViewBytes v ++ rest)) at_ = some v := by
  have hdown := dirViewCode_lt v.down
  have hup := dirViewCode_lt v.up
  have hkind : byteAt (front ++ (laneViewBytes v ++ rest)) at_ = BitVec.ofNat 8 (kindCode v.kind) := by
    rw [byteAt_skip h.le, h, Nat.sub_self]
    rfl
  have hcode : byteAt (front ++ (laneViewBytes v ++ rest)) (at_ + 1) =
      BitVec.ofNat 8 (dirViewCode v.down * 16 + dirViewCode v.up) := by
    rw [byteAt_skip (by omega), h, Nat.add_sub_cancel_left]
    rfl
  have hkindOf : kindOf (BitVec.ofNat 8 (kindCode v.kind) : Byte).toNat = some v.kind := by cases v.kind <;> rfl
  unfold laneViewAt
  rw [hkind, hcode, hkindOf, toNat_ofNat_of_lt (by omega)]
  dsimp only
  rw [dirViewOf_mod (dirViewCode v.down * 16 + dirViewCode v.up),
    show (dirViewCode v.down * 16 + dirViewCode v.up) % 16 = dirViewCode v.up by omega,
    show (dirViewCode v.down * 16 + dirViewCode v.up) / 16 = dirViewCode v.down by omega, dirViewOf_code, dirViewOf_code]

theorem laneViewBytes_length (v : LaneView) : (laneViewBytes v).length = 2 := by
  unfold laneViewBytes
  simp

theorem viewAt_front (v : View) {front rest : List Byte} {at_ : Nat} (h : front.length = at_) :
    viewAt (front ++ (viewBytes v ++ rest)) at_ = some v := by
  have h1 : (front ++ laneViewBytes v.l0).length = at_ + 2 := by rw [List.length_append, laneViewBytes_length, h]
  have h2 : (front ++ laneViewBytes v.l0 ++ laneViewBytes v.l1).length = at_ + 4 := by
    rw [List.length_append, laneViewBytes_length, h1]
  have h3 : (front ++ laneViewBytes v.l0 ++ laneViewBytes v.l1 ++ laneViewBytes v.l2).length = at_ + 6 := by
    rw [List.length_append, laneViewBytes_length, h2]
  have r0 := laneViewAt_front v.l0 h (rest := laneViewBytes v.l1 ++ laneViewBytes v.l2 ++ laneViewBytes v.l3 ++ rest)
  have r1 := laneViewAt_front v.l1 h1 (rest := laneViewBytes v.l2 ++ laneViewBytes v.l3 ++ rest)
  have r2 := laneViewAt_front v.l2 h2 (rest := laneViewBytes v.l3 ++ rest)
  have r3 := laneViewAt_front v.l3 h3 (rest := rest)
  simp only [List.append_assoc] at r0 r1 r2 r3
  unfold viewAt viewBytes
  simp only [List.append_assoc]
  rw [r0, r1, r2, r3]

theorem laneReportBytes_length (r : LaneReport) : (laneReportBytes r).length = 3 := by
  unfold laneReportBytes
  simp

theorem laneReportAt_front (r : LaneReport) {front rest : List Byte} {at_ : Nat} (h : front.length = at_) :
    laneReportAt (front ++ (laneReportBytes r ++ rest)) at_ = some r := by
  have hcode : byteAt (front ++ (laneReportBytes r ++ rest)) at_ =
      BitVec.ofNat 8 (kindCode r.kind * 16 + laneStateCode r.state) := by
    rw [byteAt_skip h.le, h, Nat.sub_self]
    rfl
  have hgrade : byteAt (front ++ (laneReportBytes r ++ rest)) (at_ + 1) = r.grade := by
    rw [byteAt_skip (by omega), h, Nat.add_sub_cancel_left]
    rfl
  have hscore : byteAt (front ++ (laneReportBytes r ++ rest)) (at_ + 2) = r.score16 := by
    rw [byteAt_skip (by omega), h, Nat.add_sub_cancel_left]
    rfl
  have hkind : kindOf ((BitVec.ofNat 8 (kindCode r.kind * 16 + laneStateCode r.state) : Byte).toNat / 16) = some r.kind := by
    cases r.kind <;> cases r.state <;> rfl
  have hstate : laneStateOf ((BitVec.ofNat 8 (kindCode r.kind * 16 + laneStateCode r.state) : Byte).toNat % 16) =
      some r.state := by
    cases r.kind <;> cases r.state <;> rfl
  unfold laneReportAt
  rw [hcode, hgrade, hscore]
  dsimp only
  rw [hkind, hstate]

theorem laneReportsAt_front (p : PerLane LaneReport) {front rest : List Byte} {at_ : Nat} (h : front.length = at_) :
    laneReportsAt (front ++ (laneReportsBytes p ++ rest)) at_ = some p := by
  have h1 : (front ++ laneReportBytes p.l0).length = at_ + 3 := by rw [List.length_append, laneReportBytes_length, h]
  have h2 : (front ++ laneReportBytes p.l0 ++ laneReportBytes p.l1).length = at_ + 6 := by
    rw [List.length_append, laneReportBytes_length, h1]
  have h3 : (front ++ laneReportBytes p.l0 ++ laneReportBytes p.l1 ++ laneReportBytes p.l2).length = at_ + 9 := by
    rw [List.length_append, laneReportBytes_length, h2]
  have r0 := laneReportAt_front p.l0 h (rest := laneReportBytes p.l1 ++ laneReportBytes p.l2 ++ laneReportBytes p.l3 ++ rest)
  have r1 := laneReportAt_front p.l1 h1 (rest := laneReportBytes p.l2 ++ laneReportBytes p.l3 ++ rest)
  have r2 := laneReportAt_front p.l2 h2 (rest := laneReportBytes p.l3 ++ rest)
  have r3 := laneReportAt_front p.l3 h3 (rest := rest)
  simp only [List.append_assoc] at r0 r1 r2 r3
  unfold laneReportsAt laneReportsBytes
  simp only [List.append_assoc]
  rw [r0, r1, r2, r3]

theorem orderBytes_length (o : Option OrderField) : (orderBytes o).length = 17 := by
  cases o with
  | none => rfl
  | some o =>
    unfold orderBytes
    simp

theorem orderIn_front (o : Option OrderField) {front rest : List Byte} (h : front.length = 13) :
    orderIn (front ++ (orderBytes o ++ rest)) = some o := by
  have hmark : byteAt (front ++ (orderBytes o ++ rest)) 13 = byteAt (orderBytes o ++ rest) 0 := by
    rw [byteAt_skip h.le, h]
  unfold orderIn
  rw [hmark]
  cases o with
  | none => rfl
  | some o =>
    have hcode : byteAt (orderBytes (some o) ++ rest) 0 = BitVec.ofNat 8 (128 + markCode o.commitMark) := rfl
    have hepoch : numAt (front ++ (orderBytes (some o) ++ rest)) 14 4 = o.epoch.toNat := by
      unfold orderBytes
      rw [numAt_skip (by omega), h]
      simp only [List.append_assoc]
      rw [numAt_skip (by simp), bytesOfNat_length, numAt_front o.epoch.isLt]
    have hstamp := stampAt_front o.stamp (front := front ++ bytesOfNat 1 (128 + markCode o.commitMark) ++
      bytesOfNat 4 o.epoch.toNat) (rest := viewBytes o.view ++ rest) (at_ := 18) (by simp [h])
    have hview := viewAt_front o.view (front := front ++ bytesOfNat 1 (128 + markCode o.commitMark) ++
      bytesOfNat 4 o.epoch.toNat ++ stampBytes o.stamp) (rest := rest) (at_ := 22) (by simp [h])
    have hodd : decide ((BitVec.ofNat 8 (128 + markCode o.commitMark) : Byte).toNat % 2 = 1) = o.commitMark := by
      cases o.commitMark <;> rfl
    have hset : ¬ (BitVec.ofNat 8 (128 + markCode o.commitMark) : Byte).toNat < 128 := by cases o.commitMark <;> decide
    rw [hcode, hepoch]
    dsimp only
    rw [if_neg hset, hodd]
    unfold orderBytes
    simp only [List.append_assoc] at hstamp hview ⊢
    rw [hstamp, hview, ofNat_toNat]

end Sys2Proof.Layout
end

section
/-! The two control messages read back from their bytes (R203). -/

-- One declaration after another: side by side, the proofs of the text need more memory than its check allows.
set_option Elab.async false

namespace Sys2Proof.Layout

open Sys2Proof Sys2Proof.Machine Sys2Proof.Claims

/-! ### The item of a steering message -/

theorem itemEditBytes_length (e : Option Edit) : (itemEditBytes e).length = 17 := by
  cases e with
  | none => rfl
  | some e =>
    unfold itemEditBytes
    simp

theorem itemBytes_length (item : Option TransferItem) (paused : Bool) : (itemBytes item paused).length = 22 := by
  cases item with
  | none => rfl
  | some i =>
    unfold itemBytes
    simp [itemEditBytes_length]

theorem itemEditOf_editBytes {e : Edit} (h : e.wellFormed = true) : itemEditOf (editCode e) (editBytes e) = some (some e) := by
  cases e with
  | add r => exact congrArg (fun x => some (x.map Edit.add)) (Records.recordOf_eq_some_iff.2 (Records.spells_recordBytes h))
  | modify r =>
    exact congrArg (fun x => some (x.map Edit.modify)) (Records.recordOf_eq_some_iff.2 (Records.spells_recordBytes h))
  | retire n =>
    have hn : (byteAt (editBytes (.retire n)) 0).toNat = n.val := toNat_ofNat_of_lt (by omega)
    unfold itemEditOf
    dsimp only [editCode]
    rw [hn, circuitOf_val]
    rfl

theorem itemMark_lt (paused : Bool) (mode : StageMode) : 128 + 64 * markCode paused + modeCode mode < 256 := by
  cases paused <;> cases mode <;> decide

theorem itemIn_front {item : Option TransferItem} (hitem : ∀ i, item = some i → i.wellFormed = true) (paused : Bool)
    {front rest : List Byte} (h : front.length = 30) : itemIn (front ++ (itemBytes item paused ++ rest)) = some item := by
  have hbyte : ∀ k, byteAt (front ++ (itemBytes item paused ++ rest)) (30 + k) = byteAt (itemBytes item paused ++ rest) k :=
    fun k => by rw [byteAt_skip (by omega), h, Nat.add_sub_cancel_left]
  have hslice : ∀ k n, slice (front ++ (itemBytes item paused ++ rest)) (30 + k) n =
      slice (itemBytes item paused ++ rest) k n :=
    fun k n => by rw [slice_skip (by omega), h, Nat.add_sub_cancel_left]
  unfold itemIn numAt
  rw [hbyte 0, hbyte 3, hbyte 4, hbyte 5, hslice 1 2, hslice 6 16]
  cases item with
  | none => cases paused <;> rfl
  | some i =>
    have hi := hitem i rfl
    unfold TransferItem.wellFormed at hi
    simp only [Bool.and_eq_true, decide_eq_true_eq] at hi
    obtain ⟨⟨hindex, htotal⟩, hedit⟩ := hi
    have hmark : byteAt (itemBytes (some i) paused ++ rest) 0 =
        BitVec.ofNat 8 (128 + 64 * markCode paused + modeCode i.mode) := rfl
    have hmode : (if (128 + 64 * markCode paused + modeCode i.mode) % 2 = 1 then StageMode.full else .change) = i.mode := by
      cases paused <;> cases i.mode <;> rfl
    have htarget : natOfBytes (slice (itemBytes (some i) paused ++ rest) 1 2) = i.target.toNat := by
      unfold itemBytes
      simp only [List.append_assoc]
      rw [slice_skip (by simp), bytesOfNat_length]
      exact numAt_front i.target.isLt
    have hindexAt : byteAt (itemBytes (some i) paused ++ rest) 3 = BitVec.ofNat 8 i.index := rfl
    have htotalAt : byteAt (itemBytes (some i) paused ++ rest) 4 = BitVec.ofNat 8 i.total := rfl
    rw [hmark, htarget, hindexAt, htotalAt, toNat_ofNat_of_lt (itemMark_lt paused i.mode), toNat_ofNat_of_lt hindex,
      toNat_ofNat_of_lt htotal, ofNat_toNat]
    dsimp only
    rw [if_neg (by omega), hmode]
    obtain ⟨target, mode, index, total, edit⟩ := i
    cases edit with
    | none => rfl
    | some e =>
      have hkind : byteAt (itemBytes (some ⟨target, mode, index, total, some e⟩) paused ++ rest) 5 =
          BitVec.ofNat 8 (editCode e) := rfl
      have hrecord : slice (itemBytes (some ⟨target, mode, index, total, some e⟩) paused ++ rest) 6 16 = editBytes e := by
        unfold itemBytes itemEditBytes
        simp only [← List.append_assoc]
        rw [List.append_assoc _ (editBytes e)]
        rw [slice_skip (by simp)]
        simp only [List.length_append, bytesOfNat_length, Nat.reduceAdd, Nat.reduceSub]
        exact slice_front (editBytes_length e)
      have hcode : 1 ≤ editCode e ∧ editCode e < 256 := by cases e <;> simp [editCode]
      have hwf : e.wellFormed = true := by
        simpa using (Bool.and_eq_true_iff.1 hedit).1
      rw [hkind, hrecord, toNat_ofNat_of_lt hcode.2, if_neg (by omega), itemEditOf_editBytes hwf]

theorem itemPaused_front (item : Option TransferItem) (paused : Bool) (rest : List Byte) :
    (byteAt (itemBytes item paused ++ rest) 0).getLsbD 6 = paused := by
  cases item with
  | none =>
    change (BitVec.ofNat 8 (64 * markCode paused) : Byte).getLsbD 6 = _
    cases paused <;> rfl
  | some i =>
    change (BitVec.ofNat 8 (128 + 64 * markCode paused + modeCode i.mode) : Byte).getLsbD 6 = _
    cases paused <;> cases i.mode <;> rfl

/-! ### The steering message -/

/-- Message bytes 0 to 12 of a steering message. -/
def steeringHead (m : Steering) : List Byte :=
  [0x01] ++ bytesOfNat 2 m.cycle.toNat ++ bytesOfNat 1 (linkStateCode m.link) ++ bytesOfNat 2 m.generation.toNat ++
    stampBytes m.stamp ++ bytesOfNat 1 m.c ++ bytesOfNat 2 m.lead

theorem steeringHead_length (m : Steering) : (steeringHead m).length = 13 := by
  unfold steeringHead
  simp

theorem steeringBytes_eq (m : Steering) : steeringBytes m = steeringHead m ++ (orderBytes m.order ++
    (itemBytes m.item m.paused ++ (laneReportsBytes m.lanes ++
      (bytesOfNat 1 (postureBits m.stormOn m.deadBand) ++ List.replicate 51 0)))) := by
  unfold steeringBytes steeringHead
  simp only [List.append_assoc]

theorem steeringBytes_length (m : Steering) : (steeringBytes m).length = 116 := by
  rw [steeringBytes_eq]
  simp [steeringHead_length, orderBytes_length, itemBytes_length]

theorem linkStateOf_byte (x : LinkState) : linkStateOf (BitVec.ofNat 8 (linkStateCode x) : Byte).toNat = some x := by
  cases x <;> rfl

/-- The first fields of a steering message. -/
theorem steeringHead_fields (m : Steering) (rest : List Byte) :
    byteAt (steeringHead m ++ rest) 0 = 0x01 ∧ numAt (steeringHead m ++ rest) 1 2 = m.cycle.toNat ∧
    byteAt (steeringHead m ++ rest) 3 = BitVec.ofNat 8 (linkStateCode m.link) ∧
    numAt (steeringHead m ++ rest) 4 2 = m.generation.toNat ∧ stampAt (steeringHead m ++ rest) 6 = m.stamp ∧
    byteAt (steeringHead m ++ rest) 10 = BitVec.ofNat 8 m.c ∧
    (m.lead < 65536 → numAt (steeringHead m ++ rest) 11 2 = m.lead) := by
  have hstamp := stampAt_front m.stamp (at_ := 6) (rest := bytesOfNat 1 m.c ++ bytesOfNat 2 m.lead ++ rest)
    (front := [0x01] ++ bytesOfNat 2 m.cycle.toNat ++ bytesOfNat 1 (linkStateCode m.link) ++ bytesOfNat 2 m.generation.toNat)
    (by simp)
  have hcycle := numAt_append (at_ := 1) (front := [0x01]) (rest := bytesOfNat 1 (linkStateCode m.link) ++
    bytesOfNat 2 m.generation.toNat ++ stampBytes m.stamp ++ bytesOfNat 1 m.c ++ bytesOfNat 2 m.lead ++ rest)
    (n := 2) rfl m.cycle.isLt
  have hgeneration := numAt_append (at_ := 4) (front := [0x01] ++ bytesOfNat 2 m.cycle.toNat ++
    bytesOfNat 1 (linkStateCode m.link)) (rest := stampBytes m.stamp ++ bytesOfNat 1 m.c ++ bytesOfNat 2 m.lead ++ rest)
    (n := 2) (by simp) m.generation.isLt
  refine ⟨rfl, ?_, rfl, ?_, ?_, ?_, fun hlead => ?_⟩
  · simpa only [steeringHead, List.append_assoc] using hcycle
  · simpa only [steeringHead, List.append_assoc] using hgeneration
  · simpa only [steeringHead, List.append_assoc] using hstamp
  · unfold steeringHead
    simp only [List.append_assoc]
    rfl
  · have hread := numAt_append (at_ := 11) (front := [0x01] ++ bytesOfNat 2 m.cycle.toNat ++
      bytesOfNat 1 (linkStateCode m.link) ++ bytesOfNat 2 m.generation.toNat ++ stampBytes m.stamp ++ bytesOfNat 1 m.c)
      (rest := rest) (n := 2) (by simp) hlead
    simpa only [steeringHead, List.append_assoc] using hread

theorem steeringOf_steeringBytes {m : Steering} (h : m.wellFormed = true) : steeringOf (steeringBytes m) = some m := by
  unfold Steering.wellFormed at h
  simp only [Bool.and_eq_true, decide_eq_true_eq] at h
  obtain ⟨⟨⟨⟨hlo, hhi⟩, hleadlo⟩, hleadhi⟩, hitem⟩ := h
  have hwf : ∀ i, m.item = some i → i.wellFormed = true := fun i hi => by simpa only [hi] using hitem
  have hlen := steeringHead_length m
  have horder := orderIn_front m.order hlen (rest := itemBytes m.item m.paused ++ (laneReportsBytes m.lanes ++
      (bytesOfNat 1 (postureBits m.stormOn m.deadBand) ++ List.replicate 51 0)))
  have hitemIn := itemIn_front hwf m.paused (front := steeringHead m ++ orderBytes m.order)
    (rest := laneReportsBytes m.lanes ++ (bytesOfNat 1 (postureBits m.stormOn m.deadBand) ++ List.replicate 51 0))
    (by rw [List.length_append, hlen, orderBytes_length])
  have hlanes := laneReportsAt_front m.lanes (at_ := 52)
    (front := steeringHead m ++ (orderBytes m.order ++ itemBytes m.item m.paused))
    (rest := bytesOfNat 1 (postureBits m.stormOn m.deadBand) ++ List.replicate 51 0)
    (by rw [List.length_append, List.length_append, hlen, orderBytes_length, itemBytes_length])
  have hpaused : (byteAt (steeringBytes m) 30).getLsbD 6 = m.paused := by
    rw [steeringBytes_eq, byteAt_skip (by omega), hlen, byteAt_skip (by rw [orderBytes_length]), orderBytes_length]
    exact itemPaused_front m.item m.paused _
  have hposture : byteAt (steeringBytes m) 64 = BitVec.ofNat 8 (postureBits m.stormOn m.deadBand) := by
    rw [steeringBytes_eq, byteAt_skip (by omega), hlen, byteAt_skip (by rw [orderBytes_length]; decide), orderBytes_length,
      byteAt_skip (by rw [itemBytes_length]; decide), itemBytes_length, byteAt_skip (by simp), laneReportsBytes_length]
    rfl
  have hstorm : (BitVec.ofNat 8 (postureBits m.stormOn m.deadBand) : Byte).getLsbD 1 = m.stormOn := by
    cases m.stormOn <;> cases m.deadBand <;> rfl
  have hsupply : (BitVec.ofNat 8 (postureBits m.stormOn m.deadBand) : Byte).getLsbD 0 = m.deadBand := by
    cases m.stormOn <;> cases m.deadBand <;> rfl
  have htiming : timingListed m.c m.lead = true := by
    simp [timingListed, hlo, hhi, hleadlo, hleadhi]
  simp only [List.append_assoc] at hitemIn hlanes
  unfold steeringOf
  rw [hpaused, hposture, hstorm, hsupply, steeringBytes_eq]
  obtain ⟨hkind, hcycle, hlink, hgeneration, hstamp, hc, hlead⟩ := steeringHead_fields m (orderBytes m.order ++
    (itemBytes m.item m.paused ++ (laneReportsBytes m.lanes ++
      (bytesOfNat 1 (postureBits m.stormOn m.deadBand) ++ List.replicate 51 0))))
  rw [hkind, hcycle, hlink, hgeneration, hstamp, hc, hlead (by omega), linkStateOf_byte, horder, hitemIn, hlanes,
    toNat_ofNat_of_lt (by omega)]
  dsimp only
  rw [if_neg (by decide), if_pos htiming, ofNat_toNat, ofNat_toNat]

end Sys2Proof.Layout
end

section
/-! The mast reply, the two halves of a message, and the copies that the lanes complete (R101, R103, R104, R203). -/

-- One declaration after another: side by side, the proofs of the text need more memory than its check allows.
set_option Elab.async false

namespace Sys2Proof.Layout

open Sys2Proof Sys2Proof.Machine Sys2Proof.Claims

/-! ### The mast reply -/

/-- Message bytes 0 to 18 of a mast reply. -/
def replyHead (m : Reply) : List Byte :=
  [0x02] ++ bytesOfNat 2 m.echo.toNat ++ bytesOfNat 1 (linkStateCode m.link) ++ bytesOfNat 2 m.generation.toNat ++
    bytesOfNat 1 (128 * markCode m.stageTarget.isSome + modeCode m.stageMode) ++
    bytesOfNat 2 (m.stageTarget.getD 0).toNat ++ bytesOfNat 1 m.held ++ stampBytes m.stamp ++
    stampBytes (m.ready.getD Stamp.zero) ++ bytesOfNat 1 (4 * markCode m.blank + postureBits m.stormOn m.deadBand)

/-- Message bytes 31 to 115 of a mast reply. -/
def replyTail (m : Reply) : List Byte :=
  bytesOfNat 1 (causesCode m.causes.l0) ++ bytesOfNat 1 (causesCode m.causes.l1) ++
    bytesOfNat 1 (causesCode m.causes.l2) ++ bytesOfNat 1 (causesCode m.causes.l3) ++ List.replicate 81 0

theorem replyHead_length (m : Reply) : (replyHead m).length = 19 := by
  unfold replyHead
  simp

theorem replyBytes_eq (m : Reply) : replyBytes m = replyHead m ++ (laneReportsBytes m.lanes ++ replyTail m) := by
  unfold replyBytes replyHead replyTail
  simp only [List.append_assoc]

theorem replyBytes_length (m : Reply) : (replyBytes m).length = 116 := by
  rw [replyBytes_eq]
  simp [replyHead_length, replyTail]

theorem causesOf_code (c : Causes) : causesOf (BitVec.ofNat 8 (causesCode c)) = c := by
  obtain ⟨strike, storm, driver, thermal⟩ := c
  cases strike <;> cases storm <;> cases driver <;> cases thermal <;> rfl

/-- The numbers and stamps of a mast reply. -/
theorem replyHead_numbers (m : Reply) (rest : List Byte) :
    numAt (replyHead m ++ rest) 1 2 = m.echo.toNat ∧ numAt (replyHead m ++ rest) 4 2 = m.generation.toNat ∧
    numAt (replyHead m ++ rest) 7 2 = (m.stageTarget.getD 0).toNat ∧
    stampAt (replyHead m ++ rest) 10 = m.stamp ∧ stampAt (replyHead m ++ rest) 14 = m.ready.getD Stamp.zero := by
  have h1 : ([0x02] : List Byte).length = 1 := rfl
  have h4 : ([0x02] ++ bytesOfNat 2 m.echo.toNat ++ bytesOfNat 1 (linkStateCode m.link)).length = 4 := by simp
  have h7 : ([0x02] ++ bytesOfNat 2 m.echo.toNat ++ bytesOfNat 1 (linkStateCode m.link) ++
      bytesOfNat 2 m.generation.toNat ++
      bytesOfNat 1 (128 * markCode m.stageTarget.isSome + modeCode m.stageMode)).length = 7 := by simp
  have h10 : ([0x02] ++ bytesOfNat 2 m.echo.toNat ++ bytesOfNat 1 (linkStateCode m.link) ++
      bytesOfNat 2 m.generation.toNat ++ bytesOfNat 1 (128 * markCode m.stageTarget.isSome + modeCode m.stageMode) ++
      bytesOfNat 2 (m.stageTarget.getD 0).toNat ++ bytesOfNat 1 m.held).length = 10 := by simp
  have h14 : ([0x02] ++ bytesOfNat 2 m.echo.toNat ++ bytesOfNat 1 (linkStateCode m.link) ++
      bytesOfNat 2 m.generation.toNat ++ bytesOfNat 1 (128 * markCode m.stageTarget.isSome + modeCode m.stageMode) ++
      bytesOfNat 2 (m.stageTarget.getD 0).toNat ++ bytesOfNat 1 m.held ++ stampBytes m.stamp).length = 14 := by simp
  unfold replyHead
  simp only [List.append_assoc] at h4 h7 h10 h14 ⊢
  refine ⟨?_, ?_, ?_, ?_, ?_⟩
  · exact (numAt_skip h1.le).trans (numAt_front m.echo.isLt)
  · have hread := numAt_append (rest := bytesOfNat 1 (128 * markCode m.stageTarget.isSome + modeCode m.stageMode) ++
      (bytesOfNat 2 (m.stageTarget.getD 0).toNat ++ (bytesOfNat 1 m.held ++ (stampBytes m.stamp ++
      (stampBytes (m.ready.getD Stamp.zero) ++
      (bytesOfNat 1 (4 * markCode m.blank + postureBits m.stormOn m.deadBand) ++ rest)))))) (n := 2) h4 m.generation.isLt
    simpa only [List.append_assoc] using hread
  · have hread := numAt_append (rest := bytesOfNat 1 m.held ++ (stampBytes m.stamp ++
      (stampBytes (m.ready.getD Stamp.zero) ++
      (bytesOfNat 1 (4 * markCode m.blank + postureBits m.stormOn m.deadBand) ++ rest)))) (n := 2) h7
      (m.stageTarget.getD 0).isLt
    simpa only [List.append_assoc] using hread
  · have hread := stampAt_front m.stamp (rest := stampBytes (m.ready.getD Stamp.zero) ++
      (bytesOfNat 1 (4 * markCode m.blank + postureBits m.stormOn m.deadBand) ++ rest)) h10
    simpa only [List.append_assoc] using hread
  · have hread := stampAt_front (m.ready.getD Stamp.zero)
      (rest := bytesOfNat 1 (4 * markCode m.blank + postureBits m.stormOn m.deadBand) ++ rest) h14
    simpa only [List.append_assoc] using hread

/-- The coded bytes of a mast reply. -/
theorem replyHead_bytes (m : Reply) (rest : List Byte) :
    byteAt (replyHead m ++ rest) 0 = 0x02 ∧ byteAt (replyHead m ++ rest) 3 = BitVec.ofNat 8 (linkStateCode m.link) ∧
    byteAt (replyHead m ++ rest) 6 = BitVec.ofNat 8 (128 * markCode m.stageTarget.isSome + modeCode m.stageMode) ∧
    byteAt (replyHead m ++ rest) 9 = BitVec.ofNat 8 m.held ∧
    byteAt (replyHead m ++ rest) 18 = BitVec.ofNat 8 (4 * markCode m.blank + postureBits m.stormOn m.deadBand) :=
  ⟨rfl, rfl, rfl, rfl, rfl⟩

theorem replyTail_causes (m : Reply) {front : List Byte} (h : front.length = 31) :
    (⟨causesOf (byteAt (front ++ replyTail m) 31), causesOf (byteAt (front ++ replyTail m) 32),
      causesOf (byteAt (front ++ replyTail m) 33), causesOf (byteAt (front ++ replyTail m) 34)⟩ : PerLane Causes) =
    m.causes := by
  rw [byteAt_skip (by omega), byteAt_skip (by omega), byteAt_skip (by omega), byteAt_skip (by omega), h]
  change (⟨causesOf (BitVec.ofNat 8 (causesCode m.causes.l0)), causesOf (BitVec.ofNat 8 (causesCode m.causes.l1)),
    causesOf (BitVec.ofNat 8 (causesCode m.causes.l2)), causesOf (BitVec.ofNat 8 (causesCode m.causes.l3))⟩ :
    PerLane Causes) = _
  rw [causesOf_code, causesOf_code, causesOf_code, causesOf_code]

theorem replyOf_replyBytes {m : Reply} (h : m.wellFormed = true) : replyOf (replyBytes m) = some m := by
  unfold Reply.wellFormed at h
  simp only [Bool.and_eq_true, decide_eq_true_eq] at h
  obtain ⟨⟨hheld, hready⟩, hstage⟩ := h
  have hlanes := laneReportsAt_front m.lanes (rest := replyTail m) (replyHead_length m)
  have hcauses := replyTail_causes m (front := replyHead m ++ laneReportsBytes m.lanes)
    (by rw [List.length_append, replyHead_length, laneReportsBytes_length])
  obtain ⟨hecho, hgeneration, htarget, hstamp, hreadyAt⟩ := replyHead_numbers m (laneReportsBytes m.lanes ++ replyTail m)
  obtain ⟨hkind, hlink, hmark, hheldAt, hposture⟩ := replyHead_bytes m (laneReportsBytes m.lanes ++ replyTail m)
  have hpresent : (BitVec.ofNat 8 (128 * markCode m.stageTarget.isSome + modeCode m.stageMode) : Byte).getLsbD 7 =
      m.stageTarget.isSome := by
    cases m.stageTarget.isSome <;> cases m.stageMode <;> rfl
  have hmode : (if (BitVec.ofNat 8 (128 * markCode m.stageTarget.isSome + modeCode m.stageMode) : Byte).getLsbD 0
      then StageMode.full else .change) = m.stageMode := by
    cases m.stageTarget.isSome <;> cases m.stageMode <;> rfl
  have htargetOf : (if m.stageTarget.isSome then some (m.stageTarget.getD 0) else none) = m.stageTarget := by
    cases m.stageTarget <;> rfl
  have hreadyOf : (if m.ready.getD Stamp.zero = Stamp.zero then none else some (m.ready.getD Stamp.zero)) = m.ready := by
    cases hr : m.ready with
    | none => rfl
    | some stamp => exact if_neg fun hz => hready (hr.trans (congrArg some hz))
  have hblank : (BitVec.ofNat 8 (4 * markCode m.blank + postureBits m.stormOn m.deadBand) : Byte).getLsbD 2 = m.blank := by
    cases m.blank <;> cases m.stormOn <;> cases m.deadBand <;> rfl
  have hstorm : (BitVec.ofNat 8 (4 * markCode m.blank + postureBits m.stormOn m.deadBand) : Byte).getLsbD 1 = m.stormOn := by
    cases m.blank <;> cases m.stormOn <;> cases m.deadBand <;> rfl
  have hsupply : (BitVec.ofNat 8 (4 * markCode m.blank + postureBits m.stormOn m.deadBand) : Byte).getLsbD 0 =
      m.deadBand := by
    cases m.blank <;> cases m.stormOn <;> cases m.deadBand <;> rfl
  simp only [List.append_assoc] at hcauses
  unfold replyOf
  rw [replyBytes_eq, hkind, hlink, linkStateOf_byte, hlanes, hecho, hgeneration, hmark, hheldAt, htarget, hstamp, hreadyAt,
    hposture, hcauses, toNat_ofNat_of_lt hheld, hpresent, hmode, hblank, hstorm, hsupply]
  dsimp only
  rw [if_neg (by decide), ofNat_toNat, ofNat_toNat, ofNat_toNat, htargetOf, hreadyOf]

/-! ### Halves -/

theorem secondUnchecked_length {msg : List Byte} (h : msg.length = 116) : (secondUnchecked msg).length = 58 := by
  unfold secondUnchecked slice
  simp [h]

theorem firstHalf_length {msg : List Byte} (h : msg.length = 116) : (firstHalf msg).length = 60 := by
  unfold firstHalf slice
  simp [h]

theorem secondHalf_length {msg : List Byte} (h : msg.length = 116) : (secondHalf msg).length = 60 := by
  unfold secondHalf
  rw [List.length_append, secondUnchecked_length h, crc16Bytes_length]

/-- The two halves of a message give it back under a good check. -/
theorem checkedMessage_halves {msg : List Byte} (h : msg.length = 116) :
    checkedMessage (firstHalf msg) (secondHalf msg) = some msg := by
  have hlen := secondUnchecked_length h
  have htake : (secondHalf msg).take 58 = secondUnchecked msg := List.take_left' hlen
  have hcheck : slice (secondHalf msg) 58 2 = crc16Bytes (firstHalf msg ++ secondUnchecked msg) := by
    unfold secondHalf
    rw [slice_skip hlen.le, hlen]
    exact List.take_of_length_le (crc16Bytes_length _).le
  have hfirst : slice (firstHalf msg) 1 59 = msg.take 59 := by
    unfold firstHalf slice
    simp
  have hsecond : slice (secondHalf msg) 1 57 = msg.drop 59 := by
    unfold secondHalf secondUnchecked slice
    simp [h]
  unfold checkedMessage
  rw [htake, hcheck, if_pos rfl, hfirst, hsecond, List.take_append_drop]

/-! ### Copies -/

theorem halvesHeld_eq (s : State) : halvesHeld s =
    { s with chan := { s.chan with waiting := PerLane.ofFn fun l => waitingAfter (s.handed.get l) } } := by
  have hheld : (fun l => waitingAfter (s.handed.get l)) = fun l => match halfHanded s l with
      | some (count, bytes) => if byteAt bytes 0 = 0x01 then some (⟨count, bytes⟩ : WaitingHalf) else none
      | none => none := funext fun l => by
    unfold waitingAfter halfHanded
    cases s.handed.get l with
    | none => rfl
    | some x => rfl
  rw [hheld]
  rfl

theorem copyOf_eq_some_iff (s : State) (l : Fin 4) (msg : List Byte) (first : Count) :
    copyOf (s.chan.waiting.get l) (s.handed.get l) = some (msg, first) ↔ completes s l msg first := by
  unfold completes halfHanded copyOf
  cases s.chan.waiting.get l with
  | none => simp
  | some w =>
    cases s.handed.get l with
    | none => simp
    | some x =>
      cases hx : x.control with
      | none => simp [hx]
      | some half =>
        obtain ⟨count, bytes⟩ := half
        have hcount : w.count = count - 1 ↔ w.count + 1 = count := eq_sub_iff_add_eq
        simp only [hcount, hx, Option.bind_some, Option.some.injEq, Prod.mk.injEq, exists_eq_left', exists_and_left]
        constructor
        · intro h
          split at h
          next hpair =>
            obtain ⟨m, hm, he⟩ := Option.map_eq_some_iff.1 h
            cases he
            exact ⟨count, bytes, ⟨rfl, rfl⟩, hpair.1, hpair.2, rfl, hm⟩
          next => cases h
        · rintro ⟨_, _, ⟨rfl, rfl⟩, hsecond, hpair, rfl, hm⟩
          rw [if_pos ⟨hsecond, hpair⟩, hm]
          rfl

/-- The first lane that gives something, lower ones giving nothing. -/
theorem findSome_of_lowest {β : Type} {f : Fin 4 → Option β} {l : Fin 4} {b : β} (h : f l = some b)
    (hlow : ∀ k < l, f k = none) : laneNumbers.findSome? f = some b := by
  have hsplit : ∃ below above, laneNumbers = below ++ l :: above ∧ ∀ k ∈ below, k < l := by
    fin_cases l
    · exact ⟨[], [1, 2, 3], rfl, by decide⟩
    · exact ⟨[0], [2, 3], rfl, by decide⟩
    · exact ⟨[0, 1], [3], rfl, by decide⟩
    · exact ⟨[0, 1, 2], [], rfl, by decide⟩
  obtain ⟨below, above, hlanes, hbelow⟩ := hsplit
  exact List.findSome?_eq_some_iff.2 ⟨below, l, above, hlanes, h, fun k hk => hlow k (hbelow k hk)⟩

theorem chosenCopy_eq_none {s : State} (h : ∀ l msg first, ¬ completes s l msg first) : chosenCopy s = none :=
  List.findSome?_eq_none_iff.2 fun l _ => Option.eq_none_iff_forall_ne_some.2 fun ⟨msg, first⟩ hcopy =>
    h l msg first ((copyOf_eq_some_iff s l msg first).1 hcopy)

theorem chosenCopy_eq_some {s : State} {l : Fin 4} {msg : List Byte} {first : Count} (h : completes s l msg first)
    (hlow : ∀ k other n, k < l → ¬ completes s k other n) : chosenCopy s = some (msg, first) :=
  findSome_of_lowest ((copyOf_eq_some_iff s l msg first).2 h) fun k hk =>
    Option.eq_none_iff_forall_ne_some.2 fun ⟨other, n⟩ hcopy => hlow k other n hk ((copyOf_eq_some_iff s k other n).1 hcopy)

theorem receiveControl_of_none {s : State} (h : chosenCopy s = none) : receiveControl s = halvesHeld s := by
  unfold receiveControl
  rw [h, halvesHeld_eq]

theorem receiveControl_of_some {s : State} {msg : List Byte} {first : Count} (h : chosenCopy s = some (msg, first)) :
    receiveControl s = chooseMessage msg first (halvesHeld s) := by
  unfold receiveControl
  rw [h, halvesHeld_eq]

/-- In CALLING the count of the first half takes no part in the tests of a steering message (R105). -/
theorem chooseSteering_count {m : Steering} {s : State} {first : Count} (h : first = s.count - 1 ∨ s.link.state = .calling) :
    chooseSteering m first s = chooseSteering m (s.count - 1) s := by
  rcases h with rfl | hcalling
  · rfl
  · unfold chooseSteering steeringAcceptable
    rw [hcalling]

/-- Settles O51: the parts of each message are read from their places, and the chosen copy is judged as its message. -/
theorem controlMessagesRoundTrip : Obligations.ControlMessagesRoundTrip := by
  refine ⟨fun m h => ⟨steeringBytes_length m, steeringOf_steeringBytes h, ?_⟩,
    fun m h => ⟨replyBytes_length m, replyOf_replyBytes h, ?_⟩,
    fun msg h => ⟨firstHalf_length h, secondHalf_length h, checkedMessage_halves h⟩, fun s hs => ⟨fun hnone => ?_,
      fun l msg first hcopy hlow => ?_⟩⟩
  · have hkind : byteAt (steeringBytes m) 0 = 0x01 := rfl
    unfold replyOf
    rw [hkind, if_pos (by decide)]
  · have hkind : byteAt (replyBytes m) 0 = 0x02 := rfl
    unfold steeringOf
    rw [hkind, if_pos (by decide)]
  · exact receiveControl_of_none (chosenCopy_eq_none hnone)
  · rw [receiveControl_of_some (chosenCopy_eq_some hcopy hlow)]
    have hruns : Runs (halvesHeld s) := hs
    unfold chooseMessage
    refine ⟨fun m hm hfirst => ?_, fun m hno hm => ?_, fun hno hneither => ?_⟩
    · rw [hm]
      dsimp only
      rw [chooseSteering_count (s := halvesHeld s) hfirst]
      exact running_of_runs hruns _
    · rw [hno, hm]
      exact running_of_runs hruns _
    · rw [hno, hneither]

end Sys2Proof.Layout
end

section
/-! The lane superframe read back from the line (R57, R58, R202). -/

-- One declaration after another: side by side, the proofs of the text need more memory than its check allows.
set_option Elab.async false

namespace Sys2Proof.Layout

open Sys2Proof Sys2Proof.Machine Sys2Proof.Claims

/-! ### The header -/

theorem headerOf_front (lane l : Fin 4) (count : Count) (stamp : Stamp) (rest : List Byte) :
    headerOf l (headerBytes lane count stamp ++ rest) = if l = lane then some (count, stamp) else none := by
  have hlane : (byteAt (headerBytes lane count stamp ++ rest) 2).toNat = lane.val := toNat_ofNat_of_lt (by omega)
  have hsync : slice (headerBytes lane count stamp ++ rest) 0 2 = [0xE2, 0x59] := rfl
  have hcount : numAt (headerBytes lane count stamp ++ rest) 3 4 = count.toNat := by
    unfold headerBytes
    simp only [List.append_assoc]
    exact ((numAt_skip (by simp)).trans (numAt_skip (by simp))).trans (numAt_front count.isLt)
  have hstamp : stampAt (headerBytes lane count stamp ++ rest) 7 = stamp := by
    have hread := stampAt_front stamp (at_ := 7) (rest := crc16Bytes ([0xE2, 0x59] ++ bytesOfNat 1 lane.val ++
        bytesOfNat 4 count.toNat ++ stampBytes stamp) ++ rest)
      (front := [0xE2, 0x59] ++ bytesOfNat 1 lane.val ++ bytesOfNat 4 count.toNat) (by simp)
    unfold headerBytes
    simpa only [List.append_assoc] using hread
  have hcheck : crc16Bytes (slice (headerBytes lane count stamp ++ rest) 0 11) =
      slice (headerBytes lane count stamp ++ rest) 11 2 := by
    unfold headerBytes
    generalize hfront : [0xE2, 0x59] ++ bytesOfNat 1 lane.val ++ bytesOfNat 4 count.toNat ++ stampBytes stamp = front
    have hlen : front.length = 11 := by simp [← hfront]
    dsimp only
    rw [List.append_assoc, slice_front hlen, slice_skip hlen.le, hlen, slice_front (crc16Bytes_length _)]
  unfold headerOf
  rw [hlane, hsync, hcount, hstamp, ofNat_toNat]
  by_cases hl : l = lane
  · rw [if_pos hl, if_pos ⟨rfl, congrArg Fin.val hl.symm, hcheck⟩]
  · rw [if_neg hl, if_neg fun h => hl (Fin.ext h.2.1.symm)]

/-! ### Slots and blocks -/

/-- The cell of a slot is whole. -/
def WholeCells (slots : List PayloadSlot) : Prop := ∀ c : Cell, .data c ∈ slots → c.length = 60

theorem slotOf_slotLine {x : PayloadSlot} (h : ∀ c : Cell, x = .data c → c.length = 60) : slotOf (slotLine x) = some x := by
  cases x with
  | fill => rfl
  | data c =>
    have hc := h c rfl
    have htag : byteAt (slotLine (.data c)) 0 = 0xA5 := rfl
    have hcell : slice (slotLine (.data c)) 1 Config.cellBytes = c := by
      change (padTo Config.cellBytes c).take Config.cellBytes = c
      rw [(padTo_of_length hc : padTo Config.cellBytes c = c)]
      exact List.take_of_length_le hc.le
    unfold slotOf
    rw [htag, if_pos rfl, hcell]

theorem slotLines_length (slots : List PayloadSlot) : (slots.flatMap slotLine).length = 61 * slots.length := by
  induction slots with
  | nil => rfl
  | cons x slots ih =>
    rw [List.flatMap_cons, List.length_append, ih, slotLine_length, List.length_cons]
    change 61 + 61 * slots.length = _
    omega

theorem slotsOf_slotLines (slots : List PayloadSlot) (h : WholeCells slots) (rest : List Byte) :
    slotsOf slots.length (slots.flatMap slotLine ++ rest) = slots.map some := by
  induction slots with
  | nil => rfl
  | cons x slots ih =>
    have hx := slotLine_length x
    rw [List.flatMap_cons, List.append_assoc, List.length_cons, slotsOf, List.take_left' hx, List.drop_left' hx,
      slotOf_slotLine fun c hc => h c (hc ▸ List.mem_cons_self), ih fun c hc => h c (List.mem_cons_of_mem _ hc)]
    rfl

section
variable {slots : List PayloadSlot}

theorem blockLine_length (h : slots.length = 16) : (blockLine slots).length = 978 := by
  unfold blockLine
  rw [List.length_append, slotLines_length, crc16Bytes_length, h]

theorem blockGood_blockLine (h : slots.length = 16) : blockGood (blockLine slots) = true := by
  have hlen : (slots.flatMap slotLine).length = 976 := by rw [slotLines_length, h]
  unfold blockGood blockLine
  dsimp only
  rw [slice_front hlen, slice_skip hlen.le, hlen]
  exact decide_eq_true (List.take_of_length_le (crc16Bytes_length _).le).symm

theorem slotsOf_blockLine (h : slots.length = 16) (hcells : WholeCells slots) :
    slotsOf Config.blockSlots (blockLine slots) = slots.map some := by
  change slotsOf 16 _ = _
  rw [← h]
  exact slotsOf_slotLines slots hcells _

end

theorem blocksLine_length {n : Nat} {slots : List PayloadSlot} (h : slots.length = 16 * n) :
    (blocksLine n slots).length = 978 * n := by
  induction n generalizing slots with
  | zero => rfl
  | succ n ih =>
    have htake : (slots.take 16).length = 16 := by rw [List.length_take]; omega
    have hdrop : (slots.drop 16).length = 16 * n := by rw [List.length_drop]; omega
    have hline : blocksLine (n + 1) slots = blockLine (slots.take 16) ++ blocksLine n (slots.drop 16) := rfl
    rw [hline, List.length_append, blockLine_length htake, ih hdrop]
    omega

/-- Blocks within what can be received are judged good and give their slots. -/
theorem judgeBlocks_blocksLine {n k receivable : Nat} {slots : List PayloadSlot} (h : slots.length = 16 * n)
    (hcells : WholeCells slots) (hroom : 16 * (k + n) ≤ receivable) :
    judgeBlocks receivable k (blocksOf n (blocksLine n slots)) = (0, slots.map some) := by
  induction n generalizing k slots with
  | zero =>
    obtain rfl := List.length_eq_zero_iff.1 h
    rfl
  | succ n ih =>
    have htake : (slots.take 16).length = 16 := by rw [List.length_take]; omega
    have hdrop : (slots.drop 16).length = 16 * n := by rw [List.length_drop]; omega
    have hline : blocksLine (n + 1) slots = blockLine (slots.take 16) ++ blocksLine n (slots.drop 16) := rfl
    have hlen : (blockLine (slots.take 16)).length = Config.blockBytes := blockLine_length htake
    have hreceived : ¬ receivable < Config.blockSlots * (k + 1) := by
      change ¬ receivable < 16 * (k + 1)
      omega
    rw [hline, blocksOf, List.take_left' hlen, List.drop_left' hlen, judgeBlocks, if_neg hreceived,
      if_pos (blockGood_blockLine htake), ih hdrop (fun c hc => hcells c (List.mem_of_mem_drop hc)) (by omega),
      slotsOf_blockLine htake fun c hc => hcells c (List.mem_of_mem_take hc)]
    dsimp only
    rw [← List.map_append, List.take_append_drop]

/-- Settles O40: header, control slot and blocks are read from their places. -/
theorem superframesRoundTrip : Obligations.SuperframesRoundTrip := by
  intro f hcontrol hslots hcells
  have hcount : f.slots.length = 16 * (f.slots.length / 16) := by omega
  have hheader := headerBytes_length f.lane f.count f.stamp
  have hpad : padTo Config.cellBytes f.control = f.control := padTo_of_length hcontrol
  have hline : f.line = headerBytes f.lane f.count f.stamp ++ (f.control ++ blocksLine (f.slots.length / 16) f.slots) := by
    unfold SentFrame.line
    rw [hpad, List.append_assoc]
    rfl
  have hblocks : f.line.drop 73 = blocksLine (f.slots.length / 16) f.slots := by
    rw [hline, ← List.append_assoc]
    exact List.drop_left' (by rw [List.length_append, hheader, hcontrol])
  refine ⟨fun l => ?_, ?_, ?_, fun receivable hroom => ?_⟩
  · rw [hline]
    exact headerOf_front _ _ _ _ _
  · unfold controlOf
    rw [hline, slice_skip hheader.le, hheader]
    exact slice_front hcontrol
  · rw [hline, List.length_append, List.length_append, hheader, hcontrol, blocksLine_length hcount]
    omega
  · have hframe : frameBlocks f.slots.length f.line =
        blocksOf (f.slots.length / 16) (blocksLine (f.slots.length / 16) f.slots) := by
      unfold frameBlocks
      rw [hblocks]
      rfl
    rw [hframe]
    exact judgeBlocks_blocksLine hcount hcells (by omega)

end Sys2Proof.Layout
end

section
/-! One evaluation of a lane (R57 to R67): what is judged of an arrival, and where the state's step leads. -/

-- One declaration after another: side by side, the proofs of the text need more memory than its check allows.
set_option Elab.async false

namespace Sys2Proof.Evaluation

open Sys2Proof Sys2Proof.Machine Sys2Proof.Claims Sys2Proof.Frame Sys2Proof.Ordering

/-! ### What is judged -/

section
variable {s : State} {l : Fin 4}

/-- The header of an arrival is the one on the line, where it came in time and its count is accepted. -/
theorem judgeArrival_header (a : Arrival) : (judgeArrival s l a).header =
    (headerOf l a.bytes).filter fun h => decide (a.lag ≤ 4) && countAccepted s h.1 := by
  unfold judgeArrival
  cases headerOf l a.bytes with
  | none => rfl
  | some h =>
    obtain ⟨count, stamp⟩ := h
    rw [Option.filter_some]
    dsimp only
    by_cases hbad : Config.delayCompensation < a.lag ∨ countAccepted s count = false
    · have hno : ¬ (decide (a.lag ≤ 4) && countAccepted s count) = true := by
        rw [Bool.and_eq_true, decide_eq_true_eq]
        rintro ⟨hlag, hcount⟩
        rcases hbad with hlate | hwrong
        · exact absurd hlate (Nat.not_lt.2 hlag)
        · rw [hwrong] at hcount
          cases hcount
      rw [if_pos hbad, if_neg hno]
      rfl
    · obtain ⟨hlag, hcount⟩ := not_or.1 hbad
      have hyes : (decide (a.lag ≤ 4) && countAccepted s count) = true := by
        rw [Bool.and_eq_true, decide_eq_true_eq]
        exact ⟨Nat.not_lt.1 hlag, by simpa using hcount⟩
      rw [if_neg hbad, if_pos hyes]
      split
      · split <;> rfl
      · rfl

/-- The stamp of a valid header is compared with the stamp in force. -/
theorem judgeArrival_stampMatch {a : Arrival} {count : Count} {stamp : Stamp}
    (h : (judgeArrival s l a).header = some (count, stamp)) :
    (judgeArrival s l a).stampMatch = decide (stamp = s.orders.stamp) := by
  unfold judgeArrival at h ⊢
  cases hh : headerOf l a.bytes with
  | none =>
    rw [hh] at h
    cases h
  | some found =>
    rw [hh] at h
    obtain ⟨c, st⟩ := found
    dsimp only at h ⊢
    split at h
    · cases h
    next hgood =>
      rw [if_neg hgood]
      split at h
      next hstamp =>
        rw [if_pos hstamp]
        split at h
        next v hv => cases h; exact (decide_eq_true hstamp).symm
        next hv => cases h; exact (decide_eq_true hstamp).symm
      next hstamp =>
        rw [if_neg hstamp]
        cases h
        exact (decide_eq_false hstamp).symm

theorem judgeLane_stampMatch {input : LaneInput} {count : Count} {stamp : Stamp}
    (h : (judgeLane s l input).header = some (count, stamp)) :
    (judgeLane s l input).stampMatch = decide (stamp = s.orders.stamp) := by
  unfold judgeLane at h ⊢
  split at h
  · cases h
  next hjudged =>
    rw [if_neg hjudged]
    cases ha : input.arrival with
    | none => rw [ha] at h; cases h
    | some a => rw [ha] at h; exact judgeArrival_stampMatch h

/-- A lane that is judged takes what arrives. -/
theorem judgeLane_of_judged {input : LaneInput} (hoff : (s.lanes.get l).state ≠ .off) (hq : (s.lanes.get l).state ≠ .quarantined)
    (hdark : (s.lanes.get l).state ≠ .dark) :
    (judgeLane s l input).header = input.arrival.bind fun a => (judgeArrival s l a).header := by
  unfold judgeLane
  rw [if_neg (by simp [hoff, hq, hdark])]
  cases input.arrival <;> rfl

theorem countAccepted_iff (count : Count) : countAccepted s count = true ↔
    s.role = .truck ∨ s.link.state = .standby ∨ s.link.state = .calling ∨ count = s.count := by
  unfold countAccepted adopting
  cases s.role <;> simp [or_assoc]

theorem judgeLane_of_accepted {input : LaneInput} {count : Count} {stamp : Stamp} (hoff : (s.lanes.get l).state ≠ .off)
    (hq : (s.lanes.get l).state ≠ .quarantined) (hdark : (s.lanes.get l).state ≠ .dark)
    (h : acceptsHeader s l input count stamp) : (judgeLane s l input).header = some (count, stamp) := by
  obtain ⟨a, ha, hlag, hheader, hcount⟩ := h
  rw [judgeLane_of_judged hoff hq hdark, ha, Option.bind_some, judgeArrival_header, hheader, Option.filter_some]
  dsimp only
  rw [decide_eq_true hlag, (countAccepted_iff count).2 hcount]
  rfl

theorem judgeLane_of_missing {input : LaneInput} (hoff : (s.lanes.get l).state ≠ .off)
    (hq : (s.lanes.get l).state ≠ .quarantined) (hdark : (s.lanes.get l).state ≠ .dark) (h : headerMissing s l input) :
    (judgeLane s l input).header = none := by
  rw [judgeLane_of_judged hoff hq hdark]
  refine Option.bind_eq_none_iff.2 fun a ha => ?_
  rw [judgeArrival_header, Option.filter_eq_none_iff]
  intro found hfound
  rw [Bool.and_eq_true, decide_eq_true_eq, countAccepted_iff]
  rintro ⟨hlag, hcount⟩
  rcases h a ha hlag with hno | ⟨hrole, hstandby, hcalling, hother⟩
  · rw [hno] at hfound
    cases hfound
  · rw [hfound] at hother
    rcases hcount with hr | hl | hl | hc
    · rw [hrole] at hr
      cases hr
    · exact hstandby hl
    · exact hcalling hl
    · exact hother (congrArg some hc)

end

/-! ### Counters -/

theorem satAdd_eq (old n : Nat) : satAdd Config.counterMax old n = saturating 4294967295 old n := by
  unfold satAdd saturating
  change min 4294967295 (old + n) = _
  split <;> omega

section
variable {s : State} {l : Fin 4} (input : LaneInput)

/-- The counters of a lane after its superframe are those of the claim (R60). -/
theorem counters_after (c : LaneCounters) : c.after (judgeLane s l input) =
    laneCounted s.orders.stamp (judgeLane s l input).header (judgeLane s l input).damaged c := by
  unfold LaneCounters.after laneCounted Judgement.valid
  rw [satAdd_eq, satAdd_eq, satAdd_eq, satAdd_eq]
  cases hh : (judgeLane s l input).header with
  | none => rfl
  | some found =>
    obtain ⟨count, stamp⟩ := found
    rw [judgeLane_stampMatch hh]
    by_cases hstamp : stamp = s.orders.stamp <;> simp [hstamp]

theorem counters_saturate (c : LaneCounters) (j : Judgement) : c.saturate j = laneSaturated c (c.after j) := by
  unfold LaneCounters.saturate laneSaturated
  rw [Delivery.saturates_advance, Delivery.saturates_advance, Delivery.saturates_advance, Delivery.saturates_advance]
  rfl

end

/-! ### The state's step -/

/-- An aligned lane's step, by what the score alone would do (R62). -/
theorem alignedStep_eq {lane scored : Lane} {valid clean : Bool} (h : scoreStep lane clean = scored) :
    alignedStep lane valid clean =
      if 4 ≤ (if valid then 0 else lane.missRun + 1) then lane.into (if lane.signal then .aligning else .dark)
      else { scored with missRun := if valid then 0 else lane.missRun + 1 } := by
  subst h
  rfl

section
variable {lane : Lane} {clean : Bool}

theorem scoreStep_inService (h : lane.state = .inService) : scoreStep lane clean =
    if 3072 ≤ lane.score then lane.into .recovering
    else if 1024 ≤ lane.score then { lane with state := .suspect } else lane := by
  unfold scoreStep
  rw [h]
  rfl

theorem scoreStep_suspect (h : lane.state = .suspect) : scoreStep lane clean =
    if 3072 ≤ lane.score then lane.into .recovering
    else if lane.score ≤ 512 then { lane with state := .inService } else lane := by
  unfold scoreStep
  rw [h]
  rfl

theorem scoreStep_recovering (h : lane.state = .recovering) : scoreStep lane clean =
    if lane.score ≤ 128 then { lane with state := .admitting, holdCount := 0 } else lane := by
  unfold scoreStep
  rw [h]
  rfl

theorem scoreStep_admitting (h : lane.state = .admitting) : scoreStep lane clean =
    if 128 < lane.score then lane.into .recovering
    else if clean = false then { lane with holdCount := 0 }
    else if lane.holdCount + 1 < lane.holdTarget then { lane with holdCount := lane.holdCount + 1 }
    else lane.into .inService := by
  have hadmit : scoreStep lane clean = admitStep lane clean := by
    unfold scoreStep
    rw [h]
  rw [hadmit]
  change (if 128 < lane.score then lane.into .recovering else if (!clean) = true then { lane with holdCount := 0 }
    else if lane.holdTarget ≤ lane.holdCount + 1 then lane.into .inService
    else { lane with holdCount := lane.holdCount + 1 }) = _
  cases clean
  · rfl
  · simp only [Bool.not_true, Bool.false_eq_true, Bool.true_eq_false, if_false, ← Nat.not_lt (a := lane.holdCount + 1), ite_not]

end

/-- A lane's step is the move that the statement spells out: state, runs and hold count alone change (R61, R62, R66, R67). -/
theorem stateStep_eq (lane : Lane) (valid clean : Bool) : stateStep lane valid clean = { lane with
    state := (laneMoved lane lane.signal valid clean lane.score lane.holdTarget).1
    validRun := (laneMoved lane lane.signal valid clean lane.score lane.holdTarget).2.1
    missRun := (laneMoved lane lane.signal valid clean lane.score lane.holdTarget).2.2.1
    holdCount := (laneMoved lane lane.signal valid clean lane.score lane.holdTarget).2.2.2 } := by
  obtain ⟨enable, kind, signal, grade, state, score, validRun, missRun, holdCount, target, counters, sending⟩ := lane
  cases state with
  | off | quarantined => rfl
  | dark => cases signal <;> rfl
  | aligning =>
    cases signal with
    | false => rfl
    | true =>
      cases valid with
      | false => rfl
      | true => cases validRun <;> rfl
  | inService =>
    refine (alignedStep_eq (scoreStep_inService rfl)).trans ?_
    unfold laneMoved Lane.into
    dsimp only
    split_ifs <;> rfl
  | suspect =>
    refine (alignedStep_eq (scoreStep_suspect rfl)).trans ?_
    unfold laneMoved Lane.into
    dsimp only
    split_ifs <;> rfl
  | recovering =>
    refine (alignedStep_eq (scoreStep_recovering rfl)).trans ?_
    unfold laneMoved
    dsimp only
    split_ifs <;> rfl
  | admitting =>
    refine (alignedStep_eq (scoreStep_admitting rfl)).trans ?_
    unfold laneMoved Lane.into
    dsimp only
    split_ifs <;> rfl

end Sys2Proof.Evaluation
end

section
/-! The evaluations of a superframe and the transitions that the command table names (R53, R61, R62, R66, R67). -/

-- One declaration after another: side by side, the proofs of the text need more memory than its check allows.
set_option Elab.async false

namespace Sys2Proof.Evaluation

open Sys2Proof Sys2Proof.Machine Sys2Proof.Claims Sys2Proof.Frame Sys2Proof.Ordering Sys2Proof.Answers Sys2Proof.LaneScore

/-! ### One evaluation -/

section
variable {s : State} {l : Fin 4} (input : LaneInput)

theorem evaluateLane_of_off (h : (s.lanes.get l).state = .off) : evaluateLane l input s =
    keepHandOver l ⟨none, [], false, s.orders.stamp⟩
      { s with lanes := s.lanes.set l { s.lanes.get l with signal := input.signal } } := if_pos h

/-- The evaluation of a lane that is not OFF writes the lane, its flags, the count and what it hands on. -/
theorem evaluateLane_of_on (h : (s.lanes.get l).state ≠ .off) {new : Lane}
    (hnew : (s.lanes.get l).evaluate input.signal (holdTarget s) (judgeLane s l input) = new) : evaluateLane l input s =
    keepHandOver l (handOver s l (!alignedState (s.lanes.get l).state && alignedState new.state) (judgeLane s l input))
      { raiseIf ((s.lanes.get l).counters.saturate (judgeLane s l input)) .counterSat (changeLane l new s) with
        count := (adoptedCount s l new (judgeLane s l input)).getD s.count } := by
  subst hnew
  exact if_neg h

theorem evaluateLane_handed : (evaluateLane l input s).handed.get l ≠ none := by
  by_cases h : (s.lanes.get l).state = .off
  · rw [evaluateLane_of_off input h]
    exact ne_of_eq_of_ne (PerLane.get_set_self _ _ _) (Option.some_ne_none _)
  · rw [evaluateLane_of_on input h rfl]
    exact ne_of_eq_of_ne (PerLane.get_set_self _ _ _) (Option.some_ne_none _)

/-- LANE follows the lane's state, COUNTER_SAT its counters (R69, R177). -/
theorem evaluateLane_flags (h : (s.lanes.get l).state ≠ .off) (f : Flag) : flagSet f (evaluateLane l input s) =
    ((flagSet f s || (decide (((evaluateLane l input s).lanes.get l).state ≠ (s.lanes.get l).state) && decide (f = .lane))) ||
      ((s.lanes.get l).counters.saturate (judgeLane s l input) && decide (f = .counterSat))) := by
  rw [evaluateLane_get_of_ne_off input h, evaluateLane_of_on input h rfl, ← changeLane_flags]
  exact flagSet_raiseIf _ .counterSat f _

theorem evaluateLane_raises : RaisesOnly [.lane, .counterSat] s (evaluateLane l input s) := by
  by_cases h : (s.lanes.get l).state = .off
  · rw [evaluateLane_of_off input h]
    exact raisesOnly_of_flags rfl
  · refine raisesOnly_of_formula (fun f => (evaluateLane_flags input h f).trans (Bool.or_assoc ..)) fun f hf => ?_
    simp only [Bool.or_eq_true, Bool.and_eq_true, decide_eq_true_eq] at hf
    rcases hf with ⟨-, rfl⟩ | ⟨-, rfl⟩ <;> decide

theorem oneLaneEvaluated_evaluateLane : oneLaneEvaluated l s (evaluateLane l input s) :=
  ⟨fun k hk => evaluateLane_others l k input s hk, evaluateLane_raises input, (evaluateLane_only s l input).eq_merge⟩

/-- The lane after its evaluation: counters, score and target as updated, the rest as its step moves it. -/
theorem evaluateLane_lane (h : (s.lanes.get l).state ≠ .off) {new : Lane} (hnew : (evaluateLane l input s).lanes.get l = new) :
    new.score = scoreAfter (s.lanes.get l).score (judgeLane s l input).damaged (judgeLane s l input).valid ∧
    new.counters = (s.lanes.get l).counters.after (judgeLane s l input) ∧ new.holdTarget = holdTarget s ∧
    (new.state, new.validRun, new.missRun, new.holdCount) = laneMoved (s.lanes.get l) input.signal
      (judgeLane s l input).header.isSome
      ((judgeLane s l input).header.isSome && decide ((judgeLane s l input).damaged = 0)) new.score new.holdTarget ∧
    new = { s.lanes.get l with
      signal := input.signal, score := new.score, holdTarget := new.holdTarget, counters := new.counters
      state := new.state, validRun := new.validRun, missRun := new.missRun, holdCount := new.holdCount } := by
  rw [evaluateLane_get_of_ne_off input h, Lane.evaluate, stateStep_eq] at hnew
  subst hnew
  exact ⟨rfl, rfl, rfl, rfl, rfl⟩

theorem evaluateLane_count_eq (h : (s.lanes.get l).state ≠ .off) : (evaluateLane l input s).count =
    (adoptedCount s l ((evaluateLane l input s).lanes.get l) (judgeLane s l input)).getD s.count := by
  rw [evaluateLane_get_of_ne_off input h, evaluateLane_of_on input h rfl]
  rfl

/-- An evaluation of a lane that was not ALIGNING adopts no count (R53). -/
theorem evaluateLane_count_of_other (h : (s.lanes.get l).state ≠ .aligning) : (evaluateLane l input s).count = s.count := by
  by_cases hoff : (s.lanes.get l).state = .off
  · rw [evaluateLane_of_off input hoff]
    rfl
  · rw [evaluateLane_count_eq input hoff]
    unfold adoptedCount
    rw [if_neg fun ha => h ha.2.1]
    rfl

theorem evaluateLane_laneFlag (h : (s.lanes.get l).state ≠ .off)
    (hmoved : ((evaluateLane l input s).lanes.get l).state ≠ (s.lanes.get l).state) :
    flagSet .lane (evaluateLane l input s) = true := by
  rw [evaluateLane_flags input h, decide_eq_true hmoved]
  simp

/-- What the statement says of one evaluation. -/
theorem evaluateLane_on (h : (s.lanes.get l).state ≠ .off) {new : Lane} (hnew : (evaluateLane l input s).lanes.get l = new) :
    new.counters = laneCounted s.orders.stamp (judgeLane s l input).header (judgeLane s l input).damaged
      (s.lanes.get l).counters ∧
    flagSet .lane (evaluateLane l input s) = (flagSet .lane s || decide (new.state ≠ (s.lanes.get l).state)) ∧
    flagSet .counterSat (evaluateLane l input s) =
      (flagSet .counterSat s || laneSaturated (s.lanes.get l).counters new.counters) := by
  obtain ⟨-, hcounters, -⟩ := evaluateLane_lane input h hnew
  refine ⟨hcounters.trans (counters_after input _), ?_, ?_⟩
  · rw [evaluateLane_flags input h, hnew]
    simp
  · rw [evaluateLane_flags input h, hcounters, counters_saturate]
    simp

end

/-! ### The named transitions -/

section
variable {s : State} {l : Fin 4} {input : LaneInput}

theorem otherAligned_eq_false_iff : otherAligned s l = false ↔ ∀ k : Fin 4, k ≠ l → isAligned (s.lanes.get k).state →
    l < k ∧ ∃ h : HandOver, s.handed.get k = some h ∧ h.gained = true := by
  have hgained : ∀ k, gainedNow s k = true ↔ ∃ h : HandOver, s.handed.get k = some h ∧ h.gained = true := fun k => by
    unfold gainedNow
    cases s.handed.get k <;> simp
  have hlanes : ∀ k : Fin 4, k ∈ laneNumbers := by decide
  unfold otherAligned
  simp only [List.any_eq_false, Bool.and_eq_true, Bool.not_eq_true', Bool.and_eq_false_iff, decide_eq_true_eq,
    decide_eq_false_iff_not, isAligned_iff, ← hgained]
  constructor
  · intro h k hk ha
    have := h k (hlanes k)
    grind
  · intro h k _
    have := h k
    grind

theorem adopting_iff : adopting s = true ↔ s.role = .mast ∧ (s.link.state = .standby ∨ s.link.state = .calling) := by
  unfold adopting
  simp

/-- A lane that an evaluation aligns (R53, R61). -/
theorem aligned_evaluateLane {count : Count} {stamp : Stamp} (hstate : (s.lanes.get l).state = .aligning)
    (hsignal : input.signal = true) (hrun : 1 ≤ (s.lanes.get l).validRun) (haccepts : acceptsHeader s l input count stamp) :
    let t := evaluateLane l input s
    (t.lanes.get l).state = (if (t.lanes.get l).score ≤ 128 then .admitting else .recovering) ∧
    (t.lanes.get l).holdCount = 0 ∧ (t.lanes.get l).missRun = 0 ∧
    t.count = (if s.role = .mast ∧ (s.link.state = .standby ∨ s.link.state = .calling) ∧
      (∀ k : Fin 4, k ≠ l → isAligned (s.lanes.get k).state →
        l < k ∧ ∃ h : HandOver, s.handed.get k = some h ∧ h.gained = true) then count else s.count) := by
  have hon : (s.lanes.get l).state ≠ .off := by rw [hstate]; decide
  have hheader := judgeLane_of_accepted hon (by rw [hstate]; decide) (by rw [hstate]; decide) haccepts
  obtain ⟨-, -, -, hmoved, -⟩ := evaluateLane_lane input hon rfl
  rw [hheader, hsignal] at hmoved
  unfold laneMoved at hmoved
  rw [hstate] at hmoved
  dsimp only [Option.isSome_some] at hmoved
  rw [if_neg (by decide), if_neg (by decide), if_neg (by omega), Prod.mk.injEq, Prod.mk.injEq, Prod.mk.injEq] at hmoved
  obtain ⟨hnew, -, hmiss, hhold⟩ := hmoved
  have haligned : alignedState ((evaluateLane l input s).lanes.get l).state = true := by
    rw [hnew]
    split <;> rfl
  refine ⟨hnew, hhold, hmiss, ?_⟩
  rw [evaluateLane_count_eq input hon]
  unfold adoptedCount
  rw [hheader, apply_ite (Option.getD · s.count)]
  refine if_congr ?_ rfl rfl
  rw [adopting_iff, otherAligned_eq_false_iff]
  exact ⟨fun ⟨⟨hr, hl⟩, _, _, ho⟩ => ⟨hr, hl, ho⟩, fun ⟨hr, hl, ho⟩ => ⟨⟨hr, hl⟩, hstate, haligned, ho⟩⟩

/-- An aligned lane that an evaluation takes out of alignment (R62). -/
theorem lost_evaluateLane (hstate : isAligned (s.lanes.get l).state) (hmiss : 3 ≤ (s.lanes.get l).missRun)
    (hmissing : headerMissing s l input) :
    ((evaluateLane l input s).lanes.get l).state = (if input.signal then .aligning else .dark) ∧
      ((evaluateLane l input s).lanes.get l).validRun = 0 := by
  have hfree : (s.lanes.get l).state ≠ .off ∧ (s.lanes.get l).state ≠ .quarantined ∧ (s.lanes.get l).state ≠ .dark := by
    rcases hstate with h | h | h | h <;> rw [h] <;> decide
  obtain ⟨hon, hq, hdark⟩ := hfree
  have hheader := judgeLane_of_missing hon hq hdark hmissing
  obtain ⟨-, -, -, hmoved, -⟩ := evaluateLane_lane input hon rfl
  have hfour : 4 ≤ (s.lanes.get l).missRun + 1 := by omega
  rw [hheader] at hmoved
  unfold laneMoved at hmoved
  rcases hstate with h | h | h | h <;>
  · rw [h] at hmoved
    dsimp only [Option.isSome_none] at hmoved
    rw [if_neg Bool.false_ne_true, if_pos hfour, Prod.mk.injEq, Prod.mk.injEq] at hmoved
    exact ⟨hmoved.1, hmoved.2.1⟩

/-- A clean superframe brings a score of at most 129 to the level of readmission. -/
theorem scoreAfter_le_readmit {score : Nat} (h : score ≤ 129) : scoreAfter score 0 true ≤ 128 := by
  rcases Nat.eq_zero_or_pos score with rfl | hpos
  · decide
  · have := scoreAfter_lt_of_clean hpos
    omega

/-- An ADMITTING lane that an evaluation readmits (R67). -/
theorem readmitted_evaluateLane (hstate : (s.lanes.get l).state = .admitting) (hscore : (s.lanes.get l).score ≤ 129)
    (hclean : cleanArrival s l input) (hhold : holdTarget s ≤ (s.lanes.get l).holdCount + 1) :
    ((evaluateLane l input s).lanes.get l).state = .inService := by
  have hon : (s.lanes.get l).state ≠ .off := by rw [hstate]; decide
  obtain ⟨hvalid, hdamaged⟩ := hclean
  obtain ⟨hnew, -, htarget, hmoved, -⟩ := evaluateLane_lane input hon rfl
  rw [hdamaged, hvalid] at hnew
  have hlevel : ¬ 128 < ((evaluateLane l input s).lanes.get l).score := Nat.not_lt.2 (hnew ▸ scoreAfter_le_readmit hscore)
  rw [show (judgeLane s l input).header.isSome = true from hvalid, hdamaged, htarget] at hmoved
  unfold laneMoved at hmoved
  rw [hstate] at hmoved
  dsimp only at hmoved
  rw [if_pos rfl, if_neg (by decide), if_neg hlevel, if_neg (by decide), if_neg (Nat.not_lt.2 hhold), Prod.mk.injEq] at hmoved
  exact hmoved.1

end

/-- A command whose transition the evaluation makes completes with it. -/
theorem evaluateWhen_of_picked {pick : Lane → Lane → Bool} {l : Fin 4} {input : LaneInput} {r s : State}
    (hs : judgeTakeMast (judgeTakeTruck r) = s) (hfree : s.handed.get l = none)
    (hpick : pick (s.lanes.get l) ((evaluateLane l input s).lanes.get l) = true) :
    evaluateWhen pick l input r = evaluateLane l input s := by
  unfold evaluateWhen evaluateOnce
  rw [hs]
  dsimp only
  rw [hfree, Option.isNone_none, if_pos rfl, hpick]
  rfl

/-- Nothing is taken where no epoch is reached. -/
theorem takes_of_none {r : State} (hp : ∀ o : Order, r.orders.pending = some o → o.epoch ≠ r.count)
    (hh : ∀ h : HeardOrder, r.orders.heard = some h → h.order.epoch ≠ r.count) : judgeTakeMast (judgeTakeTruck r) = r := by
  have htruck : judgeTakeTruck r = r := by
    unfold judgeTakeTruck
    rw [takeDueTruck_eq_none (.inr hp)]
  rw [htruck]
  unfold judgeTakeMast
  rw [takeDueMast_eq_none (.inr hh)]

theorem evaluateAll_eq (s : State) (inputs : PerLane LaneInput) : evaluateAll inputs s =
    [0, 1, 2, 3].foldl (fun t l => if t.handed.get l = none then evaluateLane l (inputs.get l) t else t) s := by
  unfold evaluateAll evaluateOnce
  simp only [Option.isNone_iff_eq_none]
  rfl

/-- Settles O35: one evaluation is judged, counted and moved; the named commands are evaluations that make their move. -/
theorem laneEvaluationsComplete : Obligations.LaneEvaluationsComplete := by
  refine ⟨evaluateAll_eq, fun s l input => ⟨oneLaneEvaluated_evaluateLane input, evaluateLane_handed input, fun hoff => ?_,
    fun hon => ?_⟩, fun r l input hr => ?_⟩
  · rw [evaluateLane_get_of_off input hoff, evaluateLane_of_off input hoff]
    exact ⟨rfl, rfl, rfl⟩
  · obtain ⟨-, -, htarget, hmoved, hframe⟩ := evaluateLane_lane input hon rfl
    obtain ⟨hcounters, hlane, hsat⟩ := evaluateLane_on input hon rfl
    exact ⟨hcounters, htarget, hmoved, hframe, hlane, hsat⟩
  · have htruck : Runs (judgeTakeTruck r) := by
      unfold Runs inReset
      rw [(judgeTakeTruck_only r).resetting]
      exact hr
    refine ⟨running_of_runs hr _, running_of_runs htruck _, takes_of_none, ?_⟩
    dsimp only
    generalize hs : judgeTakeMast (judgeTakeTruck r) = s
    refine ⟨fun count stamp hfree hstate hsignal hrun haccepts => ?_, fun hfree hstate hmiss hmissing => ?_,
      fun hfree hstate hscore hclean hhold => ?_⟩
    · obtain ⟨hnew, hhold, hmiss, hcount⟩ := aligned_evaluateLane hstate hsignal hrun haccepts
      have haligned : alignedState ((evaluateLane l input s).lanes.get l).state = true := by
        rw [hnew]
        split <;> rfl
      have hmoved : ((evaluateLane l input s).lanes.get l).state ≠ (s.lanes.get l).state := fun he => by
        rw [he, hstate] at haligned
        cases haligned
      have hpick : aligns (s.lanes.get l) ((evaluateLane l input s).lanes.get l) = true := by
        unfold aligns
        rw [haligned, decide_eq_true hstate]
        rfl
      exact ⟨_, (running_of_runs hr _).trans (congrArg _ (evaluateWhen_of_picked hs hfree hpick)), rfl,
        oneLaneEvaluated_evaluateLane input, hnew, hhold, hmiss,
        evaluateLane_laneFlag input (by rw [hstate]; decide) hmoved, hcount⟩
    · obtain ⟨hnew, hrun⟩ := lost_evaluateLane hstate hmiss hmissing
      have hout : alignedState ((evaluateLane l input s).lanes.get l).state = false := by
        rw [hnew]
        split <;> rfl
      have hin := (isAligned_iff _).1 hstate
      have hmoved : ((evaluateLane l input s).lanes.get l).state ≠ (s.lanes.get l).state := fun he => by
        rw [he, hin] at hout
        cases hout
      have hpick : losesAlignment (s.lanes.get l) ((evaluateLane l input s).lanes.get l) = true := by
        unfold losesAlignment
        rw [hin, hout]
        rfl
      have hon : (s.lanes.get l).state ≠ .off := fun he => by rw [he] at hin; cases hin
      have haligning : (s.lanes.get l).state ≠ .aligning := fun he => by rw [he] at hin; cases hin
      exact ⟨_, (running_of_runs hr _).trans (congrArg _ (evaluateWhen_of_picked hs hfree hpick)), rfl,
        oneLaneEvaluated_evaluateLane input, evaluateLane_count_of_other input haligning, hnew, hrun,
        evaluateLane_laneFlag input hon hmoved⟩
    · have hnew := readmitted_evaluateLane hstate hscore hclean hhold
      have hmoved : ((evaluateLane l input s).lanes.get l).state ≠ (s.lanes.get l).state := by
        rw [hnew, hstate]
        decide
      have hpick : readmits (s.lanes.get l) ((evaluateLane l input s).lanes.get l) = true := by
        unfold readmits
        rw [decide_eq_true hstate, decide_eq_true hnew]
        rfl
      exact ⟨_, (running_of_runs hr _).trans (congrArg _ (evaluateWhen_of_picked hs hfree hpick)), rfl,
        oneLaneEvaluated_evaluateLane input, evaluateLane_count_of_other input (by rw [hstate]; decide), hnew,
        evaluateLane_laneFlag input (by rw [hstate]; decide) hmoved⟩

end Sys2Proof.Evaluation
end

section
/-! The sending of a superframe (R54, R55, R167, R168): what the entries of the plan in force take and fill, and the frames. -/

-- One declaration after another: side by side, the proofs of the text need more memory than its check allows.
set_option Elab.async false

namespace Sys2Proof.Sending

open Sys2Proof Sys2Proof.Machine Sys2Proof.Claims Sys2Proof.Frame Sys2Proof.Slots Sys2Proof.Ordering Sys2Proof.Delivery

/-! ### Cells taken, entry by entry -/

/-- An entry takes cells where a lane of its runs sends. -/
def goesOut (u : State) (e : Entry) : Bool := e.runs.any fun r => maySend u r.lane

/-- The send counters of a slot that its entry brings to saturation. -/
def drawSaturates (slots : Nat) (x : Slot) : Bool :=
  saturates x.counters.sent (drawn slots x).counters.sent || saturates x.counters.fill (drawn slots x).counters.fill

/-- The runs that an entry fills. -/
def entryRuns (u : State) (e : Entry) : List FilledRun :=
  ((slotAt u.table.slots e.number).map fun x =>
    (sendingRuns u e).map fun r => ⟨r.lane, r.first, e.slots, x.queue.take e.slots⟩).getD []

theorem takeCells_eq (slots : Nat) (x : Slot) : takeCells slots x = drawn slots x := by
  have hqueue : x.queue.drop (min slots x.queue.length) = x.queue.drop slots := by
    rcases Nat.le_total slots x.queue.length with h | h
    · rw [Nat.min_eq_left h]
    · rw [Nat.min_eq_right h, List.drop_length, List.drop_eq_nil_of_le h]
  unfold takeCells
  dsimp only
  rw [hqueue]
  rfl

theorem takeSaturates_eq (slots : Nat) (x : Slot) : takeSaturates slots x = drawSaturates slots x := by
  unfold takeSaturates
  dsimp only
  rw [saturates_advance, saturates_advance]
  rfl

section
variable {s : State} {e : Entry}

theorem sendingRuns_eq_nil_iff : sendingRuns s e = [] ↔ goesOut s e = false := by
  unfold sendingRuns goesOut
  rw [List.filter_eq_nil_iff, List.any_eq_false]

theorem sendEntry_idle (h : goesOut s e = false) : sendEntry e s = ([], s) := if_pos (sendingRuns_eq_nil_iff.2 h)

theorem sendEntry_free (h : slotAt s.table.slots e.number = none) : sendEntry e s = ([], s) := by
  unfold sendEntry
  dsimp only
  split
  · rfl
  · rw [h]

theorem sendEntry_live (h : goesOut s e = true) {x : Slot} (hx : slotAt s.table.slots e.number = some x) :
    sendEntry e s = ((sendingRuns s e).map fun r => ⟨r.lane, r.first, e.slots, x.queue.take e.slots⟩,
      writeCounted (drawn e.slots x) (drawSaturates e.slots x) s) := by
  unfold sendEntry
  dsimp only
  rw [if_neg fun hnil => Bool.false_ne_true ((sendingRuns_eq_nil_iff.1 hnil).symm.trans h), hx]
  dsimp only
  rw [takeCells_eq, takeSaturates_eq]

end

theorem maySend_congr {s t : State} (hlanes : t.lanes = s.lanes) (hlink : t.link = s.link) (l : Fin 4) :
    maySend t l = maySend s l := by
  unfold maySend
  rw [hlanes, hlink]

theorem sendEntries_append (es : List Entry) (e : Entry) (s : State) : sendEntries (es ++ [e]) s =
    ((sendEntries es s).1 ++ (sendEntry e (sendEntries es s).2).1, (sendEntry e (sendEntries es s).2).2) := by
  induction es generalizing s with
  | nil =>
    change ((sendEntry e s).1 ++ [], (sendEntry e s).2) = ([] ++ (sendEntry e s).1, (sendEntry e s).2)
    rw [List.append_nil, List.nil_append]
  | cons d es ih =>
    change ((sendEntry d s).1 ++ (sendEntries (es ++ [e]) (sendEntry d s).2).1,
      (sendEntries (es ++ [e]) (sendEntry d s).2).2) = _
    rw [ih, ← List.append_assoc]
    rfl

/-- What the sending of a list of entries gives. -/
structure Sends (u : State) (out : List FilledRun × State) (es : List Entry) : Prop where
  frame : Only [.slots, .flags] u out.2
  writes : Writes (goesOut u) (fun e => drawn e.slots) (fun e => drawSaturates e.slots) u out.2 es
  runs : out.1 = es.flatMap (entryRuns u)

section
variable {u : State} {out : List FilledRun × State} {es : List Entry} {e : Entry}

/-- An entry that does not go out, or whose circuit is not LIVE, fills nothing (R167). -/
theorem Sends.append_idle (ho : TableInOrder u) (h : Sends u out es)
    (hskip : slotAt u.table.slots e.number = none ∨ goesOut u e = false) : Sends u (out.1 ++ [], out.2) (es ++ [e]) := by
  refine ⟨h.frame, h.writes.skip ho hskip, ?_⟩
  have hnothing : entryRuns u e = [] := by
    unfold entryRuns
    rcases hskip with hnone | hidle
    · rw [hnone]
      rfl
    · rw [sendingRuns_eq_nil_iff.2 hidle]
      cases slotAt u.table.slots e.number <;> rfl
  rw [List.flatMap_append, List.flatMap_singleton, hnothing, ← h.runs]

theorem Sends.append (ho : TableInOrder u) (h : Sends u out es) (hnew : ∀ d ∈ es, d.number ≠ e.number) :
    Sends u (out.1 ++ (sendEntry e out.2).1, (sendEntry e out.2).2) (es ++ [e]) := by
  have hmay : ∀ l, maySend out.2 l = maySend u l := maySend_congr h.frame.lanes h.frame.link
  have hgoes : goesOut out.2 e = goesOut u e := by
    unfold goesOut
    rw [show (fun r : SlotRun => maySend out.2 r.lane) = _ from funext fun r => hmay r.lane]
  have hruns : sendingRuns out.2 e = sendingRuns u e := by
    unfold sendingRuns
    rw [show (fun r : SlotRun => maySend out.2 r.lane) = _ from funext fun r => hmay r.lane]
  have hat := h.writes.slotAt_eq (fun _ _ => rfl) hnew
  cases hact : goesOut u e with
  | false =>
    rw [sendEntry_idle (hgoes.trans hact)]
    exact h.append_idle ho (.inr hact)
  | true =>
    cases hx : slotAt u.table.slots e.number with
    | none =>
      rw [sendEntry_free (hat.trans hx)]
      exact h.append_idle ho (.inl hx)
    | some x =>
      have hlive := sendEntry_live (hgoes.trans hact) (hat.trans hx)
      have hentry : entryRuns u e = (sendEntry e out.2).1 := by
        unfold entryRuns
        rw [hx, hlive, hruns]
        rfl
      refine ⟨h.frame.also (sendEntry_only _ e), ?_, ?_⟩
      · rw [hlive]
        exact Writes.write (g := fun e => drawn e.slots) ho (fun _ _ => rfl) h.writes hnew hact hx
      · rw [List.flatMap_append, List.flatMap_singleton, hentry, ← h.runs]

end

/-- The entries of a list, of distinct numbers, in turn. -/
theorem sends_sendEntries {u : State} (ho : TableInOrder u) {es : List Entry} (hn : (es.map (·.number)).Nodup) :
    Sends u (sendEntries es u) es := by
  induction es using List.reverseRecOn with
  | nil => exact ⟨.refl _ _, writes_nil _ _ _ rfl rfl, rfl⟩
  | append_singleton es e ih =>
    rw [List.map_append, List.nodup_append] at hn
    obtain ⟨hes, -, hne⟩ := hn
    rw [sendEntries_append]
    exact (ih hes).append ho fun d hd => hne _ (List.mem_map_of_mem hd) _ (by simp)

/-! ### The slots that are filled -/

section
variable {u : State} {es : List Entry} {l : Fin 4} {i : Nat}

theorem mem_entryRuns {e : Entry} {q : FilledRun} : q ∈ entryRuns u e ↔ ∃ x, slotAt u.table.slots e.number = some x ∧
    ∃ r ∈ e.runs, maySend u r.lane = true ∧ q = ⟨r.lane, r.first, e.slots, x.queue.take e.slots⟩ := by
  unfold entryRuns sendingRuns
  cases slotAt u.table.slots e.number with
  | none => simp
  | some x =>
    simp only [Option.map_some, Option.getD_some, List.mem_map, List.mem_filter, Option.some.injEq, exists_eq_left']
    exact ⟨fun ⟨r, ⟨hr, hmay⟩, hq⟩ => ⟨r, hr, hmay, hq.symm⟩, fun ⟨r, hr, hmay, hq⟩ => ⟨r, ⟨hr, hmay⟩, hq.symm⟩⟩

/-- A run fills a slot of a lane. -/
def fills (l : Fin 4) (i : Nat) (q : FilledRun) : Bool :=
  decide (q.lane = l) && decide (q.first ≤ i) && decide (i < q.first + q.length)

theorem payloadSlot_of_none {runs : List FilledRun} (h : runs.find? (fills l i) = none) : payloadSlot runs l i = .fill := by
  unfold payloadSlot
  rw [show (fun r : FilledRun => decide (r.lane = l) && decide (r.first ≤ i) && decide (i < r.first + r.length)) = fills l i
    from rfl, h]

theorem payloadSlot_of_some {runs : List FilledRun} {q : FilledRun} (h : runs.find? (fills l i) = some q) :
    payloadSlot runs l i = (q.cells[i - q.first]?.map PayloadSlot.data).getD .fill := by
  unfold payloadSlot
  rw [show (fun r : FilledRun => decide (r.lane = l) && decide (r.first ≤ i) && decide (i < r.first + r.length)) = fills l i
    from rfl, h]
  dsimp only
  cases q.cells[i - q.first]? <;> rfl

/-- A run that fills a slot of a lane is a run of an entry that covers the slot. -/
theorem covers_of_fills {q : FilledRun} (hq : q ∈ es.flatMap (entryRuns u)) (hf : fills l i q = true) :
    ∃ e ∈ es, ∃ r ∈ e.runs, r.lane = l ∧ r.first ≤ i ∧ i < r.first + e.slots ∧
      ∃ x, slotAt u.table.slots e.number = some x ∧ q = ⟨r.lane, r.first, e.slots, x.queue.take e.slots⟩ := by
  obtain ⟨e, he, hqe⟩ := List.mem_flatMap.1 hq
  obtain ⟨x, hx, r, hr, -, rfl⟩ := mem_entryRuns.1 hqe
  unfold fills at hf
  simp only [Bool.and_eq_true, decide_eq_true_eq] at hf
  obtain ⟨⟨hlane, hlo⟩, hhi⟩ := hf
  exact ⟨e, he, r, hr, hlane, hlo, hhi, x, hx, rfl⟩

/-- A slot that no run covers carries FILL (R55). -/
theorem payloadSlot_of_uncovered (h : ∀ e ∈ es, ∀ r ∈ e.runs, r.lane = l → ¬ (r.first ≤ i ∧ i < r.first + e.slots)) :
    payloadSlot (es.flatMap (entryRuns u)) l i = .fill :=
  payloadSlot_of_none (List.find?_eq_none.2 fun _ hq hf =>
    have ⟨e, he, r, hr, hlane, hlo, hhi, _⟩ := covers_of_fills hq hf
    h e he r hr hlane ⟨hlo, hhi⟩)

/-- A slot that one run alone covers carries the cell of its position (R167). -/
theorem payloadSlot_of_covered {e : Entry} (he : e ∈ es) {r : SlotRun} (hr : r ∈ e.runs) (hl : r.lane = l)
    (hmay : maySend u l = true) {k : Nat} (hk : k < e.slots)
    (honly : ∀ d ∈ es, ∀ q ∈ d.runs, q.lane = l → q.first ≤ r.first + k → r.first + k < q.first + d.slots → d = e ∧ q = r) :
    payloadSlot (es.flatMap (entryRuns u)) l (r.first + k) = sentAt u.table.slots e.number k := by
  unfold sentAt
  cases hx : slotAt u.table.slots e.number with
  | none =>
    refine payloadSlot_of_none (List.find?_eq_none.2 fun q hq hf => ?_)
    obtain ⟨d, hd, q', hq', hlane, hlo, hhi, x, hsome, -⟩ := covers_of_fills hq hf
    obtain ⟨rfl, -⟩ := honly d hd q' hq' hlane hlo hhi
    rw [hx] at hsome
    cases hsome
  | some x =>
    have hmem : (⟨r.lane, r.first, e.slots, x.queue.take e.slots⟩ : FilledRun) ∈ es.flatMap (entryRuns u) :=
      List.mem_flatMap.2 ⟨e, he, mem_entryRuns.2 ⟨x, hx, r, hr, hl ▸ hmay, rfl⟩⟩
    obtain ⟨q, hfind⟩ := Option.isSome_iff_exists.1 (List.find?_isSome.2
      ⟨_, hmem, (by simp [fills, hl, hk] : fills l (r.first + k) ⟨r.lane, r.first, e.slots, x.queue.take e.slots⟩ = true)⟩)
    obtain ⟨d, hd, q', hq', hlane, hlo, hhi, y, hy, rfl⟩ :=
      covers_of_fills (List.mem_of_find?_eq_some hfind) (List.find?_some hfind)
    obtain ⟨rfl, rfl⟩ := honly d hd q' hq' hlane hlo hhi
    obtain rfl := Option.some_inj.1 (hx.symm.trans hy)
    rw [payloadSlot_of_some hfind, Nat.add_sub_cancel_left, List.getElem?_take_of_lt hk, Option.bind_some]
    cases x.queue[k]? <;> rfl

end

/-- No slot `i` of a lane is covered by runs of both entries. -/
def NoneShared (i : Nat) (e f : Entry) : Prop := ∀ r ∈ e.runs, ∀ q ∈ f.runs, r.lane = q.lane →
  ¬ ((r.first ≤ i ∧ i < r.first + e.slots) ∧ (q.first ≤ i ∧ i < q.first + f.slots))

theorem noneShared_symm (i : Nat) : Std.Symm (NoneShared i) :=
  ⟨fun _ _ h q hq r hr hl hi => h r hr q hq hl.symm hi.symm⟩

/-- In a plan no two runs of a lane cover one slot (R35, R37). -/
theorem covers_unique {stamp : Stamp} {v : View} {table : List Record} {d : Direction}
    (hpref : ∀ r ∈ table, r.preference.Nodup) {e f : Entry} (he : e ∈ ((computePlan stamp v table).direction d).entries)
    (hf : f ∈ ((computePlan stamp v table).direction d).entries) {r q : SlotRun} (hr : r ∈ e.runs) (hq : q ∈ f.runs)
    (hlane : q.lane = r.lane) {i : Nat} (hr' : r.first ≤ i ∧ i < r.first + e.slots)
    (hq' : q.first ≤ i ∧ i < q.first + f.slots) : f = e ∧ q = r := by
  obtain ⟨-, hdual, hapart, -⟩ := Placement.planSlotsApart stamp v table d hpref
  have hsame : f = e := by
    by_contra hne
    have hsymm := noneShared_symm i
    have hnone : ((computePlan stamp v table).direction d).entries.Pairwise (NoneShared i) :=
      hapart.imp fun h r hr q hq hl hi => by
        have hbefore := h r hr q hq hl
        omega
    have hdisjoint := hnone.forall hf he hne
    exact hdisjoint q hq r hr hlane ⟨hq', hr'⟩
  subst hsame
  refine ⟨rfl, ?_⟩
  unfold Entry.runs at hr hq
  simp only [List.mem_append, Option.mem_toList] at hr hq
  rcases hr with hr | hr <;> rcases hq with hq | hq
  · exact Option.some_inj.1 (hq.symm.trans hr)
  · exact absurd hlane.symm (hdual f hf r q hr hq)
  · exact absurd hlane (hdual f hf q r hq hr)
  · exact Option.some_inj.1 (hq.symm.trans hr)

end Sys2Proof.Sending
end

section
/-! The frames of a superframe (R54 to R56, R88), and what a boundary's end advances (R53, R77, R99). -/

-- One declaration after another: side by side, the proofs of the text need more memory than its check allows.
set_option Elab.async false

namespace Sys2Proof.Sending

open Sys2Proof Sys2Proof.Machine Sys2Proof.Claims Sys2Proof.Frame Sys2Proof.Slots Sys2Proof.Ordering Sys2Proof.Delivery

/-! ### Frames -/

theorem sentSlots_eq (u : State) (l : Fin 4) :
    sentSlots u l = (u.orders.view.map fun v => layoutCapacity v (sentDirection u.role) l).getD 0 := by
  unfold sentSlots
  cases u.orders.view <;> rfl

theorem frameOf_congr {s t : State} (hcount : t.count = s.count) (horders : t.orders = s.orders) (hchan : t.chan = s.chan)
    (hrole : t.role = s.role) (runs : List FilledRun) (l : Fin 4) : frameOf t runs l = frameOf s runs l := by
  unfold frameOf
  rw [sentSlots_eq, sentSlots_eq, hcount, horders, hchan, hrole]

section
variable {u : State}

theorem sendSuperframe_sent (l : Fin 4) : (sendSuperframe u).sent.get l =
    if maySend u l then some (frameOf u (takeForSending u).1 l) else none := by
  have ho := takeForSending_only u
  change (PerLane.ofFn fun l => if maySend (settlePool (takeForSending u).2) l then
    some (frameOf (settlePool (takeForSending u).2) (takeForSending u).1 l) else none).get l = _
  rw [PerLane.get_ofFn, maySend_congr (t := settlePool (takeForSending u).2) ho.lanes ho.link,
    frameOf_congr (t := settlePool (takeForSending u).2) ho.count ho.orders ho.chan ho.role]

theorem sendSuperframe_isSome (l : Fin 4) : ((sendSuperframe u).sent.get l).isSome = maySend u l := by
  rw [sendSuperframe_sent]
  cases maySend u l <;> rfl

/-- A superframe that is sent is the lane's own. -/
theorem frame_of_sent {l : Fin 4} {f : SentFrame} (h : (sendSuperframe u).sent.get l = some f) :
    maySend u l = true ∧ f = frameOf u (takeForSending u).1 l := by
  rw [sendSuperframe_sent] at h
  split at h
  next hmay => exact ⟨hmay, (Option.some_inj.1 h).symm⟩
  next => cases h

theorem frameOf_length (runs : List FilledRun) (l : Fin 4) : (frameOf u runs l).slots.length = sentSlots u l := by
  unfold frameOf
  rw [List.length_map, List.length_range]

theorem frameOf_control (runs : List FilledRun) (l : Fin 4) :
    (frameOf u runs l).control = (u.chan.toSend.head?).getD (List.replicate 60 0) := by
  unfold frameOf
  cases u.chan.toSend <;> rfl

theorem frameOf_slot {runs : List FilledRun} {l : Fin 4} {i : Nat} (h : i < sentSlots u l) :
    (frameOf u runs l).slots[i]? = some (payloadSlot runs l i) := by
  unfold frameOf
  rw [List.getElem?_map, List.getElem?_range h]
  rfl

theorem frameOf_nothing {l : Fin 4} {x : PayloadSlot} (h : x ∈ (frameOf u [] l).slots) : x = .fill := by
  obtain ⟨i, -, rfl⟩ := List.mem_map.1 h
  rfl

theorem sendSuperframe_lane (l : Fin 4) :
    (sendSuperframe u).lanes.get l = { u.lanes.get l with sending := maySend u l } := by
  have ho := takeForSending_only u
  change (PerLane.ofFn fun l => { (takeForSending u).2.lanes.get l with
    sending := maySend (settlePool (takeForSending u).2) l }).get l = _
  rw [PerLane.get_ofFn, maySend_congr (t := settlePool (takeForSending u).2) ho.lanes ho.link, ho.lanes]

theorem sendSuperframe_guard (l : Fin 4) : (sendSuperframe u).prot.guards.get l =
    if maySend u l then u.prot.guards.get l else { u.prot.guards.get l with blanking := none, overcurrent := false } := by
  have ho := takeForSending_only u
  change (PerLane.ofFn fun l => if maySend (settlePool (takeForSending u).2) l then (takeForSending u).2.prot.guards.get l
    else ((takeForSending u).2.prot.guards.get l).stopped).get l = _
  rw [PerLane.get_ofFn, maySend_congr (t := settlePool (takeForSending u).2) ho.lanes ho.link, ho.prot]
  rfl

theorem sendSuperframe_prot : (sendSuperframe u).prot = { u.prot with guards := (sendSuperframe u).prot.guards } := by
  have ho := takeForSending_only u
  have hframes : (sendSuperframe u).prot =
      { (takeForSending u).2.prot with guards := (sendSuperframe u).prot.guards } := rfl
  rwa [ho.prot] at hframes

theorem sendSuperframe_chan : (sendSuperframe u).chan = { u.chan with toSend := u.chan.toSend.tail } := by
  have ho := takeForSending_only u
  change { (takeForSending u).2.chan with toSend := (takeForSending u).2.chan.toSend.tail } = _
  rw [ho.chan]

theorem sendSuperframe_service : (sendSuperframe u).service =
    { u.service with exhausted := u.service.exhausted && decide (12288 < occupancy (sendSuperframe u)) } := by
  have hservice := congrArg State.service (takeForSending_only u).eq_merge
  change { (takeForSending u).2.service with
    exhausted := (takeForSending u).2.service.exhausted && decide (12288 < occupancy (takeForSending u).2) } = _
  rw [hservice]
  rfl

/-! ### Cells taken -/

theorem raisesOnly_sendEntries (es : List Entry) (s : State) : RaisesOnly [.counterSat] s (sendEntries es s).2 := by
  induction es generalizing s with
  | nil => exact raisesOnly_of_flags rfl
  | cons e es ih =>
    refine raisesOnly_trans ?_ (ih (sendEntry e s).2)
    unfold sendEntry
    dsimp only
    split
    · exact raisesOnly_of_flags rfl
    · split
      · exact raisesOnly_of_flags rfl
      · exact raisesOnly_trans (raisesOnly_of_flags (s := s) rfl) (raisesOnly_raiseIf (s := writeSlot _ s) _ .counterSat)

theorem raisesOnly_sendSuperframe : RaisesOnly [.counterSat] u (sendSuperframe u) := by
  have htaken : RaisesOnly [.counterSat] u (takeForSending u).2 := by
    unfold takeForSending
    split
    · split
      · exact raisesOnly_of_flags rfl
      · exact raisesOnly_sendEntries _ _
    · exact raisesOnly_of_flags rfl
  exact raisesOnly_trans htaken (raisesOnly_of_flags rfl)

/-- With no plan in force, or in BLANK, nothing is taken (R168). -/
theorem takeForSending_nothing (h : planInForce u = none ∨ inBlank u = true) : takeForSending u = ([], u) := by
  unfold takeForSending
  split
  next p hp =>
    rw [if_pos (h.resolve_left (by rw [hp]; exact Option.some_ne_none p))]
  next => rfl

theorem takeForSending_plan {p : Plan} (hp : planInForce u = some p) (hblank : inBlank u = false) :
    takeForSending u = sendEntries (p.direction (sentDirection u.role)).entries u := by
  unfold takeForSending
  rw [hp]
  dsimp only
  rw [if_neg (by rw [hblank]; decide)]

end

/-- What a superframe carries of the circuits of the plan in force (R55, R167). -/
theorem sendSuperframe_plan {u : State} {stamp : Stamp} {v : View} {table : List Record}
    (hp : planInForce u = some (computePlan stamp v table)) (hv : u.orders.view = some v) (hblank : inBlank u = false)
    (ho : TableInOrder u) (hnumbers : (table.map (·.number)).Nodup) (hpref : ∀ r ∈ table, r.preference.Nodup) {es : List Entry}
    (hes : ((computePlan stamp v table).direction (sentDirection u.role)).entries = es) :
    Sends u (takeForSending u) es ∧ ∀ (l : Fin 4) (f : SentFrame), (sendSuperframe u).sent.get l = some f →
      (∀ e ∈ es, ∀ r ∈ e.runs, r.lane = l → ∀ k < e.slots, f.slots[r.first + k]? = some (sentAt u.table.slots e.number k)) ∧
      ∀ i < f.slots.length, (∀ e ∈ es, ∀ r ∈ e.runs, r.lane = l → ¬ (r.first ≤ i ∧ i < r.first + e.slots)) →
        f.slots[i]? = some .fill := by
  have hdistinct : (es.map (·.number)).Nodup := by
    obtain ⟨hperm, -⟩ := Placement.placementOrderOfEntries stamp v table (sentDirection u.role) hnumbers
    rw [hes] at hperm
    exact hperm.nodup_iff.2 (hnumbers.sublist (List.filter_sublist.map _))
  have hsends : Sends u (takeForSending u) es := by
    rw [takeForSending_plan hp hblank, hes]
    exact sends_sendEntries ho hdistinct
  refine ⟨hsends, fun l f hf => ?_⟩
  obtain ⟨hmay, rfl⟩ := frame_of_sent hf
  rw [frameOf_length, hsends.runs]
  refine ⟨fun e he r hr hl k hk => ?_, fun i hi hno => ?_⟩
  · have hroom : r.first + k < sentSlots u l := by
      obtain ⟨hwithin, -⟩ := Placement.planSlotsApart stamp v table (sentDirection u.role) hpref
      obtain ⟨-, hfits⟩ := hwithin e (hes ▸ he) r hr
      rw [sentSlots_eq, hv, ← hl]
      change r.first + k < baseSlots (v.get r.lane).kind /
        2 ^ min (viewDir v (sentDirection u.role) r.lane).grade.val (maxGrade (v.get r.lane).kind)
      omega
    rw [frameOf_slot hroom]
    refine congrArg some (payloadSlot_of_covered he hr hl hmay hk fun d hd q hq hql hlo hhi => ?_)
    exact covers_unique hpref (hes ▸ he) (hes ▸ hd) hr hq (hql.trans hl.symm) (i := r.first + k) (by omega) ⟨hlo, hhi⟩
  · rw [frameOf_slot hi]
    exact congrArg some (payloadSlot_of_uncovered hno)

/-! ### The advance -/

theorem tick_eq (timer : Option Nat) : tick timer = oneLess timer := by
  rcases timer with _ | _ | n <;> rfl

theorem advance_guard (u : State) (l : Fin 4) : (advance u).prot.guards.get l = { u.prot.guards.get l with
    strikeHold := oneLess (u.prot.guards.get l).strikeHold, retry := oneLess (u.prot.guards.get l).retry
    blanking := oneLess (u.prot.guards.get l).blanking } := by
  change (u.prot.guards.map LaneGuard.tick).get l = _
  rw [PerLane.get_map]
  unfold LaneGuard.tick
  rw [tick_eq, tick_eq, tick_eq]

theorem advance_eq (u : State) : advance u = { u with
    count := (advance u).count, handed := (advance u).handed, planner := { u.planner with fresh := false }
    prot := { u.prot with guards := (advance u).prot.guards, stormDecay := oneLess u.prot.stormDecay }
    link := { u.link with timer := oneLess u.link.timer }
    chan := { u.chan with cycleDue := decide ((advance u).count.toNat % u.params.c = 0) } } := by
  rw [← tick_eq, ← tick_eq]
  rfl

end Sys2Proof.Sending
end

section
/-! A superframe boundary (R53): the events that are due in their order, and what the work of the superframe keeps. -/

-- One declaration after another: side by side, the proofs of the text need more memory than its check allows.
set_option Elab.async false

namespace Sys2Proof.Sending

open Sys2Proof Sys2Proof.Machine Sys2Proof.Claims Sys2Proof.Frame Sys2Proof.LaneScore Sys2Proof.Evaluation

/-! ### The events that are due, in their order -/

/-- A command that a running part takes by a function of its state, and that leaves the reset conditions alone. -/
structure TakenBy (c : Instr) (f : State → State) : Prop where
  exec : ∀ s, exec c s = running s f
  resetting : ∀ s, (f s).resetting = s.resetting

theorem TakenBy.ran {c : Instr} {f : State → State} (h : TakenBy c f) {s : State} (hs : Runs s) : ran s c = f s := by
  unfold Claims.ran
  rw [h.exec, running_of_runs hs]

theorem TakenBy.runs {c : Instr} {f : State → State} (h : TakenBy c f) {s : State} (hs : Runs s) : Runs (f s) := by
  unfold Runs inReset
  rw [h.resetting]
  exact hs

/-- Commands in turn run as their functions in turn. -/
theorem foldl_ran {cs : List (Instr × (State → State))} (h : ∀ p ∈ cs, TakenBy p.1 p.2) {u : State} (hu : Runs u) :
    (cs.map Prod.fst).foldl ran u = cs.foldl (fun s p => p.2 s) u := by
  induction cs generalizing u with
  | nil => rfl
  | cons p cs ih =>
    have hp := h p List.mem_cons_self
    rw [List.map_cons, List.foldl_cons, List.foldl_cons, hp.ran hu]
    exact ih (fun q hq => h q (List.mem_cons_of_mem _ hq)) (hp.runs hu)

/-- The commands that a boundary takes first, each with what it does (assumption log 2). -/
def dueSteps : List (Instr × (State → State)) :=
  ([0, 1, 2, 3] : List (Fin 4)).map (fun l => (.strikeHoldExpiry l, expireStrikeHold l)) ++
  [(.stormDecayExpiry, expireStormDecay)] ++
  ([0, 1, 2, 3] : List (Fin 4)).map (fun l => (.blankingExpiry l, expireBlanking l)) ++
  ([0, 1, 2, 3] : List (Fin 4)).map (fun l => (.driverRetryExpiry l, expireRetry l)) ++
  [(.callWindowExpiry, expireWindow), (.gapExpiry, expireGap), (.recallWaitExpiry, expireRecall),
   (.planningRunEnd, judgeRunEnd), (.controlCycleEnd, judgeCycleEnd), (.holdoverExpiry, judgeHoldover),
   (.orderTakeTruck, judgeTakeTruck), (.orderTakeMast, judgeTakeMast), (.orderedCommitCompletion, judgeCompletion)]

theorem takenBy_of_only {c : Instr} {f : State → State} {ps : List Part} (hexec : ∀ s, exec c s = running s f)
    (h : ∀ s, Only ps s (f s)) (hp : Part.resetting ∉ ps := by decide) : TakenBy c f :=
  ⟨hexec, fun s => (h s).resetting hp⟩

theorem dueSteps_taken : ∀ p ∈ dueSteps, TakenBy p.1 p.2 := by
  have holds : ∀ l, TakenBy (.strikeHoldExpiry l) (expireStrikeHold l) := fun l =>
    takenBy_of_only (fun _ => rfl) (expireStrikeHold_only · l)
  have blanking : ∀ l, TakenBy (.blankingExpiry l) (expireBlanking l) := fun l =>
    takenBy_of_only (fun _ => rfl) (expireBlanking_only · l)
  have retries : ∀ l, TakenBy (.driverRetryExpiry l) (expireRetry l) := fun l =>
    takenBy_of_only (fun _ => rfl) (expireRetry_only · l)
  have decay : TakenBy .stormDecayExpiry expireStormDecay := takenBy_of_only (fun _ => rfl) expireStormDecay_only
  have rest : TakenBy .callWindowExpiry expireWindow ∧ TakenBy .gapExpiry expireGap ∧
      TakenBy .recallWaitExpiry expireRecall ∧ TakenBy .planningRunEnd judgeRunEnd ∧
      TakenBy .controlCycleEnd judgeCycleEnd ∧ TakenBy .holdoverExpiry judgeHoldover ∧
      TakenBy .orderTakeTruck judgeTakeTruck ∧ TakenBy .orderTakeMast judgeTakeMast ∧
      TakenBy .orderedCommitCompletion judgeCompletion :=
    ⟨takenBy_of_only (fun _ => rfl) expireWindow_only, takenBy_of_only (fun _ => rfl) expireGap_only,
      takenBy_of_only (fun _ => rfl) expireRecall_only, takenBy_of_only (fun _ => rfl) judgeRunEnd_only,
      takenBy_of_only (fun _ => rfl) judgeCycleEnd_only, takenBy_of_only (fun _ => rfl) judgeHoldover_only,
      takenBy_of_only (fun _ => rfl) judgeTakeTruck_only, takenBy_of_only (fun _ => rfl) judgeTakeMast_only,
      takenBy_of_only (fun _ => rfl) judgeCompletion_only⟩
  unfold dueSteps
  simpa [holds, blanking, retries, decay] using rest

theorem settle_eq (u : State) : settle u = dueSteps.foldl (fun s p => p.2 s) u := by
  unfold settle expireGuards dueSteps
  simp only [List.foldl_append, List.foldl_cons, List.foldl_nil, List.map_cons, List.map_nil, onLanes, laneNumbers, if_true]

/-- The settling takes the due events as their commands take them. -/
theorem settle_eq_ran {u : State} (hu : Runs u) : settle u = dueFirst.foldl ran u := by
  rw [settle_eq]
  exact (foldl_ran dueSteps_taken hu).symm

/-! ### What timers never change -/

/-- What LANE SETUP and the board give a lane. -/
def boardSide (x : Lane) : Bool × Kind × Fin 4 × Bool := (x.enable, x.kind, x.gradeInput, x.signal)

/-- Configuration, supply, strike inputs and the board's side of every lane stay. -/
structure BoardKept (s t : State) : Prop where
  config : t.prot.config = s.prot.config
  supply : t.prot.supply = s.prot.supply
  inputs : t.prot.inputs = s.prot.inputs
  lanes : ∀ l, boardSide (t.lanes.get l) = boardSide (s.lanes.get l)

section
variable {s t u : State}

theorem BoardKept.trans (h : BoardKept s t) (h' : BoardKept t u) : BoardKept s u :=
  ⟨h'.config.trans h.config, h'.supply.trans h.supply, h'.inputs.trans h.inputs, fun l => (h'.lanes l).trans (h.lanes l)⟩

theorem boardKept_of_eq (hp : t.prot = s.prot) (hl : t.lanes = s.lanes) : BoardKept s t :=
  ⟨congrArg _ hp, congrArg _ hp, congrArg _ hp, fun l => by rw [hl]⟩

theorem boardKept_of_only {ps : List Part} (h : Only ps s t) (hp : Part.prot ∉ ps := by decide)
    (hl : Part.lanes ∉ ps := by decide) : BoardKept s t := boardKept_of_eq (h.prot hp) (h.lanes hl)

theorem boardSide_quarantineMove (old new : Causes) (x : Lane) : boardSide (quarantineMove old new x) = boardSide x := by
  unfold quarantineMove
  split_ifs <;> rfl

theorem boardKept_setCauses (l : Fin 4) (new : Causes) (s : State) : BoardKept s (setCauses l new s) := by
  refine ⟨by rw [setCauses_prot], by rw [setCauses_prot], by rw [setCauses_prot], fun k => ?_⟩
  rw [setCauses_lanes, PerLane.get_set]
  split
  next hk => rw [hk, boardSide_quarantineMove]
  next => rfl

theorem boardKept_putGuard (l : Fin 4) (g : LaneGuard) (s : State) : BoardKept s (putGuard l g s) :=
  ⟨rfl, rfl, rfl, fun _ => rfl⟩

theorem boardKept_raiseIf (b : Bool) (f : Flag) (s : State) : BoardKept s (raiseIf b f s) :=
  boardKept_of_only (raiseIf_only s b f)

theorem boardKept_onLanes {pick : Fin 4 → Bool} {f : Fin 4 → State → State} (hf : ∀ l s, BoardKept s (f l s)) (s : State) :
    BoardKept s (onLanes pick f s) := by
  unfold onLanes
  induction laneNumbers generalizing s with
  | nil => exact boardKept_of_eq rfl rfl
  | cons l ls ih =>
    rw [List.foldl_cons]
    refine BoardKept.trans ?_ (ih _)
    split
    · exact hf l s
    · exact boardKept_of_eq rfl rfl

theorem boardKept_startDecay (s : State) : BoardKept s (startDecay s) := by
  unfold startDecay
  exact ⟨rfl, rfl, rfl, fun _ => rfl⟩

theorem boardKept_setPosture (on : Bool) (s : State) : BoardKept s (setPosture on s) := by
  have hposture : BoardKept s (raise .storm { s with prot := { s.prot with stormOn := on } }) :=
    ⟨rfl, rfl, rfl, fun _ => rfl⟩
  unfold setPosture
  dsimp only
  split
  · exact hposture.trans (boardKept_onLanes (fun _ _ => boardKept_setCauses _ _ _) _)
  · exact hposture.trans (boardKept_onLanes (fun _ _ => boardKept_setCauses _ _ _) _)

theorem boardKept_setStormLevel (level : Nat) (s : State) : BoardKept s (setStormLevel level s) := by
  have hlevel : BoardKept s { s with prot := { s.prot with stormLevel := level } } := ⟨rfl, rfl, rfl, fun _ => rfl⟩
  unfold setStormLevel
  dsimp only
  split
  · exact hlevel
  · exact hlevel.trans (boardKept_setPosture _ _)

theorem boardKept_expireStrikeHold (l : Fin 4) (s : State) : BoardKept s (expireStrikeHold l s) := by
  unfold expireStrikeHold
  split
  · exact (boardKept_putGuard l _ s).trans (boardKept_setCauses _ _ _)
  · exact boardKept_of_eq rfl rfl

theorem boardKept_expireStormDecay (s : State) : BoardKept s (expireStormDecay s) := by
  unfold expireStormDecay
  dsimp only
  split
  · refine BoardKept.trans ?_ (boardKept_setStormLevel _ _)
    have hstopped : BoardKept s { s with prot := { s.prot with stormDecay := none } } := ⟨rfl, rfl, rfl, fun _ => rfl⟩
    split
    · exact hstopped
    · exact hstopped.trans (boardKept_startDecay _)
  · exact boardKept_of_eq rfl rfl

theorem boardKept_expireBlanking (l : Fin 4) (s : State) : BoardKept s (expireBlanking l s) := by
  unfold expireBlanking
  split
  · unfold faultDriver
    exact ((boardKept_putGuard l _ s).trans (boardKept_raiseIf _ .counterSat _)).trans
      ((boardKept_raiseIf true .driver _).trans (boardKept_setCauses _ _ _))
  · exact boardKept_of_eq rfl rfl

theorem boardKept_expireRetry (l : Fin 4) (s : State) : BoardKept s (expireRetry l s) := by
  unfold expireRetry
  split
  · exact (boardKept_putGuard l _ s).trans (boardKept_setCauses _ _ _)
  · exact boardKept_of_eq rfl rfl

theorem boardKept_expireGuards (s : State) : BoardKept s (expireGuards s) :=
  ((boardKept_onLanes boardKept_expireStrikeHold s).trans (boardKept_expireStormDecay _)).trans
    ((boardKept_onLanes boardKept_expireBlanking _).trans (boardKept_onLanes boardKept_expireRetry _))

theorem boardKept_settle (s : State) : BoardKept s (settle s) := by
  have schedule := (((boardKept_expireGuards s).trans (boardKept_of_only (expireWindow_only _))).trans
    (boardKept_of_only (expireGap_only _))).trans (boardKept_of_only (expireRecall_only _))
  have cycle := ((schedule.trans (boardKept_of_only (judgeRunEnd_only _))).trans
    (boardKept_of_only (judgeCycleEnd_only _))).trans (boardKept_of_only (judgeHoldover_only _))
  exact ((cycle.trans (boardKept_of_only (judgeTakeTruck_only _))).trans
    (boardKept_of_only (judgeTakeMast_only _))).trans (boardKept_of_only (judgeCompletion_only _))

end

/-! ### What the evaluations give -/

section
variable (l : Fin 4) (input : LaneInput) (s : State)

/-- An evaluation samples SIGNAL and leaves what LANE SETUP and the GRADE input gave (R66). -/
theorem boardSide_evaluateLane : boardSide ((evaluateLane l input s).lanes.get l) =
    ((s.lanes.get l).enable, (s.lanes.get l).kind, (s.lanes.get l).gradeInput, input.signal) := by
  by_cases h : (s.lanes.get l).state = .off
  · rw [evaluateLane_get_of_off input h]
    rfl
  · obtain ⟨-, -, -, -, hframe⟩ := evaluateLane_lane input h rfl
    rw [hframe]
    rfl

theorem evaluateOnce_others {k : Fin 4} (hk : k ≠ l) : (evaluateOnce l input s).lanes.get k = s.lanes.get k ∧
    (evaluateOnce l input s).handed.get k = s.handed.get k := by
  unfold evaluateOnce
  split
  · exact evaluateLane_others l k input s hk
  · exact ⟨rfl, rfl⟩

/-- A count is adopted from a header that arrived (R53). -/
theorem evaluateOnce_count : (evaluateOnce l input s).count = s.count ∨ ∃ a : Arrival, input.arrival = some a ∧
    (headerOf l a.bytes).map (·.1) = some (evaluateOnce l input s).count := by
  unfold evaluateOnce
  split
  case isFalse => exact .inl rfl
  by_cases hoff : (s.lanes.get l).state = .off
  · rw [evaluateLane_of_off input hoff]
    exact .inl rfl
  rw [evaluateLane_count_eq input hoff]
  unfold adoptedCount
  split
  case isFalse => exact .inl rfl
  cases hheader : (judgeLane s l input).header with
  | none => exact .inl rfl
  | some found =>
    right
    unfold judgeLane at hheader
    split at hheader
    · cases hheader
    · cases ha : input.arrival with
      | none => rw [ha] at hheader; cases hheader
      | some a =>
        rw [ha] at hheader
        dsimp only at hheader
        rw [judgeArrival_header, Option.filter_eq_some_iff] at hheader
        exact ⟨a, rfl, congrArg (Option.map (·.1)) hheader.1⟩

end

section
variable (inputs : PerLane LaneInput) (s : State)

theorem foldl_evaluateOnce_side (ls : List (Fin 4)) (k : Fin 4) :
    let t := ls.foldl (fun s l => evaluateOnce l (inputs.get l) s) s
    (t.lanes.get k).enable = (s.lanes.get k).enable ∧ (t.lanes.get k).kind = (s.lanes.get k).kind ∧
      (t.lanes.get k).gradeInput = (s.lanes.get k).gradeInput := by
  induction ls generalizing s with
  | nil => exact ⟨rfl, rfl, rfl⟩
  | cons l ls ih =>
    obtain ⟨henable, hkind, hgrade⟩ := ih (evaluateOnce l (inputs.get l) s)
    rw [List.foldl_cons]
    have hone : ((evaluateOnce l (inputs.get l) s).lanes.get k).enable = (s.lanes.get k).enable ∧
        ((evaluateOnce l (inputs.get l) s).lanes.get k).kind = (s.lanes.get k).kind ∧
        ((evaluateOnce l (inputs.get l) s).lanes.get k).gradeInput = (s.lanes.get k).gradeInput := by
      by_cases hk : k = l
      · subst hk
        unfold evaluateOnce
        split
        · have hside := boardSide_evaluateLane k (inputs.get k) s
          unfold boardSide at hside
          simp only [Prod.mk.injEq] at hside
          exact ⟨hside.1, hside.2.1, hside.2.2.1⟩
        · exact ⟨rfl, rfl, rfl⟩
      · rw [(evaluateOnce_others l (inputs.get l) s hk).1]
        exact ⟨rfl, rfl, rfl⟩
    exact ⟨henable.trans hone.1, hkind.trans hone.2.1, hgrade.trans hone.2.2⟩

/-- A lane that is evaluated takes SIGNAL, and no other lane's evaluation writes it (R66). -/
theorem foldl_evaluateOnce_signal {ls : List (Fin 4)} (hn : ls.Nodup) (k : Fin 4) :
    let t := ls.foldl (fun s l => evaluateOnce l (inputs.get l) s) s
    (k ∉ ls → t.lanes.get k = s.lanes.get k) ∧
      (k ∈ ls → (s.handed.get k).isNone = true → (t.lanes.get k).signal = (inputs.get k).signal) := by
  induction ls generalizing s with
  | nil => exact ⟨fun _ => rfl, fun hk => absurd hk List.not_mem_nil⟩
  | cons l ls ih =>
    obtain ⟨hl, hls⟩ := List.nodup_cons.1 hn
    obtain ⟨hout, hin⟩ := ih (evaluateOnce l (inputs.get l) s) hls
    rw [List.foldl_cons]
    dsimp only
    by_cases hk : k = l
    · subst hk
      refine ⟨fun hno => absurd List.mem_cons_self hno, fun _ hfree => ?_⟩
      rw [hout hl]
      unfold evaluateOnce
      rw [if_pos hfree]
      exact congrArg (·.2.2.2) (boardSide_evaluateLane k (inputs.get k) s)
    · obtain ⟨hlane, hhanded⟩ := evaluateOnce_others l (inputs.get l) s hk
      refine ⟨fun hno => (hout fun hm => hno (List.mem_cons_of_mem _ hm)).trans hlane, fun hm hfree => ?_⟩
      exact hin ((List.mem_cons.1 hm).resolve_left hk) (by rw [hhanded]; exact hfree)

theorem foldl_evaluateOnce_count (ls : List (Fin 4)) :
    let t := ls.foldl (fun s l => evaluateOnce l (inputs.get l) s) s
    t.count = s.count ∨ ∃ l : Fin 4, ∃ a : Arrival, (inputs.get l).arrival = some a ∧
      (headerOf l a.bytes).map (·.1) = some t.count := by
  induction ls generalizing s with
  | nil => exact .inl rfl
  | cons l ls ih =>
    rw [List.foldl_cons]
    dsimp only
    rcases ih (evaluateOnce l (inputs.get l) s) with hsame | hadopted
    · rcases evaluateOnce_count l (inputs.get l) s with hkept | ⟨a, ha, hcount⟩
      · exact .inl (hsame.trans hkept)
      · exact .inr ⟨l, a, ha, hcount.trans (congrArg some hsame.symm)⟩
    · exact .inr hadopted

theorem evaluateAll_count_truck (hr : s.role = .truck) : (evaluateAll inputs s).count = s.count := by
  have hfold : ∀ (ls : List (Fin 4)) (s : State), s.role = .truck →
      (ls.foldl (fun s l => evaluateOnce l (inputs.get l) s) s).count = s.count := by
    intro ls
    induction ls with
    | nil => exact fun _ _ => rfl
    | cons l ls ih =>
      intro s hr
      rw [List.foldl_cons, ih _ ((evaluateOnce_only s l (inputs.get l)).role.trans hr)]
      unfold evaluateOnce
      split
      · exact LinkPromise.evaluateLane_count hr l _
      · rfl
  exact hfold laneNumbers s hr

end

theorem chooseMessage_params {s : State} (hr : s.role = .truck) (msg : List Byte) (n : Count) :
    (chooseMessage msg n s).params = s.params := by
  have hsteering : ∀ m, chooseSteering m n s = s := fun m => by
    unfold chooseSteering steeringAcceptable
    rw [hr]
    rfl
  unfold chooseMessage
  split
  · rw [hsteering]
  · split
    · exact (chooseReply_only _ _).params
    · rfl

/-- At the truck end the control work keeps the parameters: no steering message is accepted there (R105). -/
theorem receiveControl_params {s : State} (hr : s.role = .truck) : (receiveControl s).params = s.params := by
  unfold receiveControl
  dsimp only
  split
  · refine chooseMessage_params ?_ _ _
    exact hr
  · rfl

end Sys2Proof.Sending
end

section
/-! What a superframe boundary sends and counts (R53 to R56, R99, R101, R167, R168). -/

-- One declaration after another: side by side, the proofs of the text need more memory than its check allows.
set_option Elab.async false

namespace Sys2Proof.Sending

open Sys2Proof Sys2Proof.Machine Sys2Proof.Claims Sys2Proof.Frame Sys2Proof.Ordering Sys2Proof.Delivery

/-! ### The state that a boundary sends from -/

/-- The state of a boundary in which its framers send: settled, evaluated, delivered, and the control work done. -/
def readyToSend (inputs : PerLane LaneInput) (s : State) : State :=
  judgeIssue (judgeFullSync (receiveControl (deliverSuperframe (evaluateAll inputs (settle s)))))

theorem completeSuperframe_eq (inputs : PerLane LaneInput) (s : State) :
    completeSuperframe inputs s = advance (sendSuperframe (readyToSend inputs s)) := rfl

section
variable (inputs : PerLane LaneInput) (s : State)

/-- Delivery and control work leave what the evaluations wrote. -/
theorem readyToSend_lanes : (readyToSend inputs s).lanes = (evaluateAll inputs (settle s)).lanes ∧
    (readyToSend inputs s).count = (evaluateAll inputs (settle s)).count := by
  unfold readyToSend
  generalize evaluateAll inputs (settle s) = e
  have hdeliver := deliverSuperframe_only e
  have hcontrol := receiveControl_only (deliverSuperframe e)
  have hsync := judgeFullSync_only (receiveControl (deliverSuperframe e))
  have hissue := judgeIssue_only (judgeFullSync (receiveControl (deliverSuperframe e)))
  exact ⟨hissue.lanes.trans (hsync.lanes.trans (hcontrol.lanes.trans hdeliver.lanes)),
    hissue.count.trans (hsync.count.trans (hcontrol.count.trans hdeliver.count))⟩

theorem readyToSend_prot : (readyToSend inputs s).prot = (settle s).prot := by
  unfold readyToSend
  have hevaluate := evaluateAll_only (settle s) inputs
  generalize evaluateAll inputs (settle s) = e at hevaluate ⊢
  have hdeliver := deliverSuperframe_only e
  have hcontrol := receiveControl_only (deliverSuperframe e)
  have hsync := judgeFullSync_only (receiveControl (deliverSuperframe e))
  have hissue := judgeIssue_only (judgeFullSync (receiveControl (deliverSuperframe e)))
  exact hissue.prot.trans (hsync.prot.trans (hcontrol.prot.trans (hdeliver.prot.trans hevaluate.prot)))

theorem readyToSend_role : (readyToSend inputs s).role = s.role ∧ (readyToSend inputs s).counting = s.counting := by
  unfold readyToSend
  have hsettle := settle_only s
  have hevaluate := evaluateAll_only (settle s) inputs
  generalize evaluateAll inputs (settle s) = e at hevaluate ⊢
  have hdeliver := deliverSuperframe_only e
  have hcontrol := receiveControl_only (deliverSuperframe e)
  have hsync := judgeFullSync_only (receiveControl (deliverSuperframe e))
  have hissue := judgeIssue_only (judgeFullSync (receiveControl (deliverSuperframe e)))
  exact ⟨hissue.role.trans (hsync.role.trans (hcontrol.role.trans (hdeliver.role.trans
      (hevaluate.role.trans hsettle.role)))),
    (hissue .counting (by decide)).trans ((hsync .counting (by decide)).trans ((hcontrol .counting (by decide)).trans
      ((hdeliver .counting (by decide)).trans ((hevaluate .counting (by decide)).trans (hsettle .counting (by decide))))))⟩

/-- The truck end's count and parameters are its own (R53, R100). -/
theorem readyToSend_truck (hr : s.role = .truck) :
    (readyToSend inputs s).count = s.count ∧ (readyToSend inputs s).params = s.params := by
  have hsettle := settle_only s
  have hrole : (settle s).role = .truck := hsettle.role.trans hr
  refine ⟨(readyToSend_lanes inputs s).2.trans ((evaluateAll_count_truck inputs (settle s) hrole).trans hsettle.count), ?_⟩
  have hevaluate := evaluateAll_only (settle s) inputs
  unfold readyToSend
  generalize evaluateAll inputs (settle s) = e at hevaluate ⊢
  have hdeliver := deliverSuperframe_only e
  have hsync := judgeFullSync_only (receiveControl (deliverSuperframe e))
  have hissue := judgeIssue_only (judgeFullSync (receiveControl (deliverSuperframe e)))
  have hcontrol := receiveControl_params (s := deliverSuperframe e) (hdeliver.role.trans (hevaluate.role.trans hrole))
  exact hissue.params.trans (hsync.params.trans (hcontrol.trans (hdeliver.params.trans
    (hevaluate.params.trans hsettle.params))))

/-- The mast end's count is its own, or one that a header brought (R53). -/
theorem readyToSend_count : (readyToSend inputs s).count = s.count ∨ ∃ l : Fin 4, ∃ a : Arrival,
    (inputs.get l).arrival = some a ∧ (headerOf l a.bytes).map (·.1) = some (readyToSend inputs s).count := by
  rw [(readyToSend_lanes inputs s).2]
  exact (foldl_evaluateOnce_count inputs (settle s) laneNumbers).imp_left fun h => h.trans (settle_only s).count

/-- What LANE SETUP and the GRADE input gave a lane stands, and SIGNAL is sampled (R66). -/
theorem readyToSend_lane (l : Fin 4) :
    ((readyToSend inputs s).lanes.get l).enable = (s.lanes.get l).enable ∧
    ((readyToSend inputs s).lanes.get l).kind = (s.lanes.get l).kind ∧
    ((readyToSend inputs s).lanes.get l).gradeInput = (s.lanes.get l).gradeInput ∧
    ((s.handed.get l).isNone = true → ((readyToSend inputs s).lanes.get l).signal = (inputs.get l).signal) := by
  have hsettled := (boardKept_settle s).lanes l
  have hhanded : (settle s).handed = s.handed := settle_only s .handed (by decide)
  unfold boardSide at hsettled
  simp only [Prod.mk.injEq] at hsettled
  obtain ⟨henable, hkind, hgrade, -⟩ := hsettled
  obtain ⟨henable', hkind', hgrade'⟩ := foldl_evaluateOnce_side inputs (settle s) laneNumbers l
  obtain ⟨-, hsignal⟩ := foldl_evaluateOnce_signal inputs (settle s) Placement.laneNumbers_nodup l
  rw [(readyToSend_lanes inputs s).1]
  exact ⟨henable'.trans henable, hkind'.trans hkind, hgrade'.trans hgrade, fun hfree =>
    hsignal ((by decide : ∀ l : Fin 4, l ∈ laneNumbers) l) (by rw [hhanded]; exact hfree)⟩

end

/-! ### What the advance leaves -/

section
variable {u : State}

/-- A plan in force when a superframe was sent is in force after it. -/
theorem planInForce_advance {p : Plan} (h : planInForce u = some p) : planInForce (advance u) = some p := by
  unfold planInForce at h ⊢
  change (match u.planner.current with
    | some p => if p.stamp = u.orders.stamp ∧ false = false then some p else none
    | none => none) = _
  cases hc : u.planner.current with
  | none => rw [hc] at h; cases h
  | some q =>
    rw [hc] at h
    dsimp only at h ⊢
    split at h
    next hq => rw [if_pos ⟨hq.1, rfl⟩]; exact h
    next => cases h

/-- Where the boundary leaves no plan in force, or BLANK, none was in force, or BLANK was, when it sent. -/
theorem nothing_of_advance (h : planInForce (advance u) = none ∨ inBlank (advance u) = true) :
    planInForce u = none ∨ inBlank u = true := by
  cases hp : planInForce u with
  | none => exact .inl rfl
  | some p =>
    have hlater := planInForce_advance hp
    right
    have hblank := h.resolve_left (by rw [hlater]; exact Option.some_ne_none p)
    unfold inBlank at hblank ⊢
    rw [hlater] at hblank
    rw [hp]
    exact hblank

theorem planInForce_sendSuperframe (w : State) : planInForce (sendSuperframe w) = planInForce w ∧
    inBlank (sendSuperframe w) = inBlank w := by
  have ho := sendSuperframe_only w
  have hplan : planInForce (sendSuperframe w) = planInForce w := planInForce_congr ho.planner (by rw [ho.orders])
  refine ⟨hplan, ?_⟩
  unfold inBlank
  rw [hplan, ho.role, ho.orders]

end

/-- What one superframe carries (R54 to R56, R99, R101). -/
theorem completed_frame {w : State} {l : Fin 4} {f : SentFrame} (h : (sendSuperframe w).sent.get l = some f) :
    f.lane = l ∧ f.count = w.count ∧ f.stamp = w.orders.stamp ∧ f.slots.length = sentSlots w l ∧
    f.control = (w.chan.toSend.head?).getD (List.replicate 60 0) ∧
    (planInForce w = none ∨ inBlank w = true → ∀ x ∈ f.slots, x = .fill) := by
  obtain ⟨-, rfl⟩ := frame_of_sent h
  refine ⟨rfl, rfl, rfl, frameOf_length _ l, frameOf_control _ l, fun hnothing x hx => ?_⟩
  rw [takeForSending_nothing hnothing] at hx
  exact frameOf_nothing hx

/-- What the sending leaves, for the boundary that advances from it. -/
structure Sent (w v : State) : Prop where
  config : v.prot.config = w.prot.config
  supply : v.prot.supply = w.prot.supply
  inputs : v.prot.inputs = w.prot.inputs
  lane : ∀ l, v.lanes.get l = { w.lanes.get l with sending := maySend w l }
  isSome : ∀ l, (v.sent.get l).isSome = maySend w l
  nothing : planInForce v = none ∨ inBlank v = true → planInForce w = none ∨ inBlank w = true
  frame : ∀ (l : Fin 4) (f : SentFrame), v.sent.get l = some f →
    f.lane = l ∧ f.count = w.count ∧ f.stamp = w.orders.stamp ∧ f.slots.length = sentSlots w l ∧
    f.control = (w.chan.toSend.head?).getD (List.replicate 60 0) ∧
    (planInForce w = none ∨ inBlank w = true → ∀ x ∈ f.slots, x = .fill)

theorem sendSuperframe_sent_spec (w : State) : Sent w (sendSuperframe w) :=
  ⟨by rw [sendSuperframe_prot], by rw [sendSuperframe_prot], by rw [sendSuperframe_prot], sendSuperframe_lane, sendSuperframe_isSome,
    fun h => by rwa [(planInForce_sendSuperframe w).1, (planInForce_sendSuperframe w).2] at h,
    fun _ _ h => completed_frame h⟩

theorem advance_count (v : State) : (advance v).count = if v.counting then v.count + 1 else v.count := rfl

theorem advance_prot (v : State) : (advance v).prot.config = v.prot.config ∧ (advance v).prot.supply = v.prot.supply ∧
    (advance v).prot.inputs = v.prot.inputs := ⟨rfl, rfl, rfl⟩

/-! ### The statement -/

/-- What the sending touches, the service block as one. -/
def wholeServiceParts : List Part := sendingParts ++ [.limits, .stray, .delivered]

/-- The sending of a superframe, from any state. -/
theorem sendSuperframe_spec (u : State) :
    let t := sendSuperframe u
    (∀ (l : Fin 4) (f : SentFrame), t.sent.get l = some f →
      f.slots.length = ((u.orders.view.map fun v => layoutCapacity v (sentDirection u.role) l).getD 0)) ∧
    (∀ (l : Fin 4) (f : SentFrame), t.sent.get l = some f →
      f.control = (u.chan.toSend.head?).getD (List.replicate 60 0)) ∧
    (∀ l : Fin 4, t.lanes.get l = { u.lanes.get l with sending := (t.sent.get l).isSome } ∧
      t.prot.guards.get l = (if (t.sent.get l).isSome then u.prot.guards.get l
        else { u.prot.guards.get l with blanking := none, overcurrent := false })) := by
  refine ⟨fun l f hf => ?_, fun l f hf => ?_, fun l => ?_⟩
  · obtain ⟨-, -, -, hlength, -⟩ := completed_frame hf
    rw [hlength, sentSlots_eq]
  · obtain ⟨-, -, -, -, hcontrol, -⟩ := completed_frame hf
    exact hcontrol
  · rw [sendSuperframe_isSome]
    exact ⟨sendSuperframe_lane l, sendSuperframe_guard l⟩

/-- Settles O39: the sending by the entries of the plan in force, the advance, the due events as their commands take them,
and the boundary put together from these. -/
theorem boundarySendsAndCounts : Obligations.BoundarySendsAndCounts := by
  refine ⟨fun u => ?_, fun u => ?_, fun u hu => ?_, fun s inputs hs => ?_⟩
  · obtain ⟨hlength, hcontrol, hlane⟩ := sendSuperframe_spec u
    refine ⟨hlength, hcontrol, hlane, sendSuperframe_prot, sendSuperframe_chan, sendSuperframe_service,
      raisesOnly_sendSuperframe, ((sendSuperframe_only u).mono (qs := wholeServiceParts)).eq_merge, fun hnothing => ⟨?_, ?_, fun l f hf => ?_⟩,
      fun stamp v table hp hv hblank ho hnumbers hpref => ?_⟩
    · exact congrArg (fun out : List FilledRun × State => out.2.table) (takeForSending_nothing hnothing)
    · exact congrArg (fun out : List FilledRun × State => out.2.host) (takeForSending_nothing hnothing)
    · obtain ⟨-, -, -, -, -, hfill⟩ := completed_frame hf
      exact hfill hnothing
    · have hgoes : ∀ e : Entry, (e.runs.any fun r => ((sendSuperframe u).sent.get r.lane).isSome) = goesOut u e :=
        fun e => congrArg (List.any e.runs ·) (funext fun r => sendSuperframe_isSome r.lane)
      obtain ⟨hsends, hframes⟩ := sendSuperframe_plan hp hv hblank ho hnumbers hpref rfl
      generalize computePlan stamp v table = plan at *
      simp only [hgoes]
      refine ⟨hsends.writes.slots.trans (List.map_congr_left fun x _ => ?_), ?_, hframes⟩
      · unfold writtenOf
        cases (plan.direction (sentDirection u.role)).entries.find? fun e =>
          decide (e.number = x.record.number) && goesOut u e <;> rfl
      · have hflag := hsends.writes.flags .counterSat
        rw [decide_eq_true rfl, Bool.and_true] at hflag
        exact hflag
  · exact ⟨rfl, fun l => ⟨advance_guard u l, PerLane.get_all _ l⟩, advance_eq u⟩
  · exact ⟨settle_eq_ran hu, ((takenBy_of_only (fun _ => rfl) judgeFullSync_only).ran hu).symm,
      ((takenBy_of_only (fun _ => rfl) judgeIssue_only).ran hu).symm⟩
  · have hall := completeSuperframe_only s inputs
    have htruck := readyToSend_truck inputs s
    have hmast := readyToSend_count inputs s
    obtain ⟨hrole, hcounting⟩ := readyToSend_role inputs s
    have hkept := boardKept_settle s
    have hprot := readyToSend_prot inputs s
    have hlane := readyToSend_lane inputs s
    refine ⟨completeSuperframe inputs s, running_of_runs hs _, rfl, ?_⟩
    rw [completeSuperframe_eq] at hall ⊢
    generalize readyToSend inputs s = w at *
    have ho := sendSuperframe_only w
    have hsent := sendSuperframe_sent_spec w
    generalize sendSuperframe w = v at *
    have hcompleted : (if s.counting then (advance v).count - 1 else (advance v).count) = w.count := by
      rw [advance_count, ho .counting (by decide), hcounting, ho.count]
      cases s.counting
      · rfl
      · exact add_sub_cancel_right _ _
    obtain ⟨hconfig, hsupply, hinputs⟩ := advance_prot v
    rw [hsent.config, hprot, hkept.config] at hconfig
    rw [hsent.supply, hprot, hkept.supply] at hsupply
    rw [hsent.inputs, hprot, hkept.inputs] at hinputs
    dsimp only
    rw [hcompleted]
    refine ⟨fun hr => ⟨(htruck hr).1, ho.params.trans (htruck hr).2⟩, fun _ => hmast, hall .counting (by decide), hall.role,
      hconfig, hsupply, hinputs, hall .held (by decide), hall .mask (by decide), hall .cause (by decide),
      hall .stray (by decide), rfl, rfl, fun l => ?_⟩
    have hl : (advance v).lanes.get l = { w.lanes.get l with sending := maySend w l } := hsent.lane l
    have hsome : ((advance v).sent.get l).isSome = maySend w l := hsent.isSome l
    obtain ⟨henable, hkind, hgrade, hsignal⟩ := hlane l
    rw [hl, hsome]
    refine ⟨henable, hkind, hgrade, hsignal, PerLane.get_all _ l, ?_, rfl, fun f hf => ?_⟩
    · have hlink : (advance v).link.state = w.link.state := by
        rw [← ho.link]
        rfl
      rw [hlink]
      unfold maySend
      simp [and_assoc]
    · obtain ⟨hfl, hcount, hstamp, hlength, hcontrol, hfill⟩ := hsent.frame l f hf
      have horders : (advance v).orders = w.orders := ho.orders
      rw [horders, ← hrole]
      refine ⟨hfl, hcount, hstamp, hlength.trans (sentSlots_eq w l), fun k g hg => ?_, fun hnothing => hfill ?_⟩
      · obtain ⟨-, -, -, -, hcontrol', -⟩ := hsent.frame k g hg
        exact hcontrol'.trans hcontrol.symm
      · exact hsent.nothing (nothing_of_advance hnothing)

end Sys2Proof.Sending
end
